-- ==== Sys2Proof/Word.lean ====
section
/-! DEFINITION. The word types of the model: what the spec treats as bits. -/

namespace Sys2Proof

/-- One byte of guest memory (spec R11). -/
abbrev Byte := BitVec 8

/-- A 16-bit guest word: a guest register, an offset, a segment, SW, CW (spec R42, R60, R26, R28). -/
abbrev Word := BitVec 16

/-- A binary64 bit pattern: sign bit 63, biased exponent 62..52, fraction 51..0 (spec R21). -/
abbrev Double := BitVec 64

/-- A binary32 bit pattern (spec R141). -/
abbrev Single := BitVec 32

/-- An 80-bit extended operand: sign bit 79, biased exponent 78..64, significand 63..0 (spec R145). -/
abbrev Extended := BitVec 80

end Sys2Proof
end

