-- ==== Sys2Proof/Config.lean ====
section
/-! DEFINITION. The open parameters of spec R9 and the free values. `Params` holds the parameters that are
plain data; a state carries one (assumption log 8), so every statement over all states holds for all of them.
The opaque constants have no body: a claim that mentions one holds whatever it is. -/

namespace Sys2Proof

/-- A guest segment register (spec R11, R44). -/
inductive SegReg where
  | es | cs | ss | ds
  deriving DecidableEq, Repr

/-- Parameter `ddRegForms` (spec R9, D9): whether the DD register forms act. -/
inductive DdRegForms where
  | standard | ignored
  deriving DecidableEq, Repr

/-- Parameter `f80SubnormalEnc` (spec R149, D16): the 80-bit pattern written for a binary64 subnormal. -/
inductive SubnormalEnc where
  | normalized | literal
  deriving DecidableEq, Repr

/-- Parameter `fxamSubnormal` (spec R293, D21): the FXAM class of a binary64 subnormal. -/
inductive SubnormalClass where
  | normal | denormal
  deriving DecidableEq, Repr

/-- Which function an open parameter that is a function stands for: the reference the spec gives as its
default, or a function nothing is known of (assumption logs 9 and 10). -/
inductive Choice where
  | reference | unknown
  deriving DecidableEq, Repr

/-- The open parameters of spec R9 as plain data. -/
structure Params where
  /-- vector number of the D8 trap (spec R171, D1) -/
  vecBase : Byte
  /-- `segCodeMap` at 00, 01, 10, 11 (spec R92, D6) -/
  seg00 : SegReg
  seg01 : SegReg
  seg10 : SegReg
  seg11 : SegReg
  ddRegForms : DdRegForms
  /-- `intIndefinite_N` (spec R151, D14) -/
  intIndefinite16 : BitVec 16
  intIndefinite32 : BitVec 32
  intIndefinite64 : BitVec 64
  /-- `f80EdgeDecode` (spec R147, D15) -/
  f80EdgeDecode : Choice
  f80SubnormalEnc : SubnormalEnc
  /-- `nan80` (spec R149, D16) -/
  nan80 : Choice
  fxamSubnormal : SubnormalClass
  /-- `tr` (spec R139, D23) -/
  tr : Choice
  /-- `scaleFn` (spec R137, D25) -/
  scaleFn : Choice
  /-- `constants` (spec R140, D34); 1.0 and +0.0 are not parameters -/
  log2_10 : Double
  log2_e : Double
  pi : Double
  log10_2 : Double
  ln_2 : Double
  deriving DecidableEq, Repr

/-- The defaults of spec R9, R140 and R171. -/
def Params.default : Params where
  vecBase := 0x34
  seg00 := .ds
  seg01 := .cs
  seg10 := .ss
  seg11 := .es
  ddRegForms := .standard
  intIndefinite16 := 0x8000
  intIndefinite32 := 0x80000000
  intIndefinite64 := 0x8000000000000000
  f80EdgeDecode := .reference
  f80SubnormalEnc := .normalized
  nan80 := .reference
  fxamSubnormal := .normal
  tr := .reference
  scaleFn := .reference
  log2_10 := 0x400A934F0979A371
  log2_e := 0x3FF71547652B82FE
  pi := 0x400921FB54442D18
  log10_2 := 0x3FD34413509F79FF
  ln_2 := 0x3FE62E42FEFA39EF

/-- `segCodeMap` (spec R92): the segment register selected by bits 7..6 of the segment-override byte. -/
def Params.segCodeMap (p : Params) (code : BitVec 2) : SegReg :=
  if code = 0 then p.seg00 else if code = 1 then p.seg01 else if code = 2 then p.seg10 else p.seg11

/-- The free values of a run, one per draw: `nanDraw`, `initRegs`, `xtractNonFinite` and the NaN patterns a
store writes take the next one (spec R132, R142, R144, R298, R330; assumption log 7). -/
opaque Config.freeValue : Nat → BitVec 64

/-- `f80EdgeDecode(s, E, M)` when it is not the reference (spec R147). -/
opaque Config.f80EdgeDecode : Bool → BitVec 15 → BitVec 64 → Double

/-- `nan80` of a NaN when it is not the default pattern (spec R149). -/
opaque Config.nan80 : Double → Extended

/-- `scaleFn(x, y)` when it is not the reference (spec R137). -/
opaque Config.scaleFn : Double → Double → Double

/-- `tr.exp2m1` where the model does not compute it (spec R139). -/
opaque Config.trExp2m1 : Double → Double

/-- `tr.log2` where the model does not compute it (spec R139). -/
opaque Config.trLog2 : Double → Double

/-- `tr.log2p1` where the model does not compute it (spec R139). -/
opaque Config.trLog2p1 : Double → Double

/-- `tr.tan` where the model does not compute it (spec R139). -/
opaque Config.trTan : Double → Double

/-- `tr.atan2 y x` where the model does not compute it (spec R139). -/
opaque Config.trAtan2 : Double → Double → Double

end Sys2Proof
end

