-- ==== Sys2Proof/Syntax.lean ====
section
/-! DEFINITION. The syntax: one constructor of `Instr` per row of spec/opcode_table.json. -/

namespace Sys2Proof

/-- The eight primary vectors, named by their ESC byte (spec R91, R171). -/
inductive Esc where
  | d8 | d9 | da | db | dc | dd | de | df
  deriving DecidableEq, Repr

/-- The displacement of a table case of the operand decoder (spec R100): none for mod 0, one byte for mod 1,
two bytes for mod 2. -/
inductive Disp where
  | none
  | byte (d : Byte)
  | word (d : Word)
  deriving DecidableEq, Repr

/-- A memory operand as the descriptor gives it: the direct case of spec R98, or base/index entry `rm` of
spec R99 with a displacement. -/
inductive MemOperand where
  | direct (disp : Word)
  | based (rm : BitVec 3) (disp : Disp)
  deriving DecidableEq, Repr

/-- What `mod` and `rm` select (spec R97, R98, R99). -/
inductive Operand where
  | reg (rm : BitVec 3)
  | mem (m : MemOperand)
  deriving DecidableEq, Repr

/-- The decoded operand of spec R14 and R103 before its effective address is computed: the opcodeField and
the operand. -/
structure Descriptor where
  op : BitVec 3
  operand : Operand
  deriving DecidableEq, Repr

/-- The instructions of the ten trap vectors, in the order of spec/opcode_table.json. A register argument is
the logical index rm; an argument an instruction does not use (FCOMPP, the ignored groups) is kept, so that no
bit of an encoding is dropped. -/
inductive Instr where
  /-- FADD m32real (spec R191) -/
  | faddM32real (m : MemOperand)
  /-- FMUL m32real (spec R192) -/
  | fmulM32real (m : MemOperand)
  /-- FCOM m32real (spec R193) -/
  | fcomM32real (m : MemOperand)
  /-- FCOMP m32real (spec R194) -/
  | fcompM32real (m : MemOperand)
  /-- FSUB m32real (spec R195) -/
  | fsubM32real (m : MemOperand)
  /-- FSUBR m32real (spec R196) -/
  | fsubrM32real (m : MemOperand)
  /-- FDIV m32real (spec R197) -/
  | fdivM32real (m : MemOperand)
  /-- FDIVR m32real (spec R198) -/
  | fdivrM32real (m : MemOperand)
  /-- FIADD m32int (spec R199) -/
  | fiaddM32int (m : MemOperand)
  /-- FIMUL m32int (spec R200) -/
  | fimulM32int (m : MemOperand)
  /-- FICOM m32int (spec R201) -/
  | ficomM32int (m : MemOperand)
  /-- FICOMP m32int (spec R202) -/
  | ficompM32int (m : MemOperand)
  /-- FISUB m32int (spec R203) -/
  | fisubM32int (m : MemOperand)
  /-- FISUBR m32int (spec R204) -/
  | fisubrM32int (m : MemOperand)
  /-- FIDIV m32int (spec R205) -/
  | fidivM32int (m : MemOperand)
  /-- FIDIVR m32int (spec R206) -/
  | fidivrM32int (m : MemOperand)
  /-- FADD m64real (spec R207) -/
  | faddM64real (m : MemOperand)
  /-- FMUL m64real (spec R208) -/
  | fmulM64real (m : MemOperand)
  /-- FCOM m64real (spec R209) -/
  | fcomM64real (m : MemOperand)
  /-- FCOMP m64real (spec R210) -/
  | fcompM64real (m : MemOperand)
  /-- FSUB m64real (spec R211) -/
  | fsubM64real (m : MemOperand)
  /-- FSUBR m64real (spec R212) -/
  | fsubrM64real (m : MemOperand)
  /-- FDIV m64real (spec R213) -/
  | fdivM64real (m : MemOperand)
  /-- FDIVR m64real (spec R214) -/
  | fdivrM64real (m : MemOperand)
  /-- FIADD m16int (spec R215) -/
  | fiaddM16int (m : MemOperand)
  /-- FIMUL m16int (spec R216) -/
  | fimulM16int (m : MemOperand)
  /-- FICOM m16int (spec R217) -/
  | ficomM16int (m : MemOperand)
  /-- FICOMP m16int (spec R218) -/
  | ficompM16int (m : MemOperand)
  /-- FISUB m16int (spec R219) -/
  | fisubM16int (m : MemOperand)
  /-- FISUBR m16int (spec R220) -/
  | fisubrM16int (m : MemOperand)
  /-- FIDIV m16int (spec R221) -/
  | fidivM16int (m : MemOperand)
  /-- FIDIVR m16int (spec R222) -/
  | fidivrM16int (m : MemOperand)
  /-- FADD ST(i),ST (spec R224) -/
  | faddStiSt (i : BitVec 3)
  /-- FMUL ST(i),ST (spec R225) -/
  | fmulStiSt (i : BitVec 3)
  /-- FSUBR ST(i),ST (spec R226) -/
  | fsubrStiSt (i : BitVec 3)
  /-- FSUB ST(i),ST (spec R227) -/
  | fsubStiSt (i : BitVec 3)
  /-- FDIVR ST(i),ST (spec R228) -/
  | fdivrStiSt (i : BitVec 3)
  /-- FDIV ST(i),ST (spec R229) -/
  | fdivStiSt (i : BitVec 3)
  /-- FADDP ST(i),ST (spec R230) -/
  | faddpStiSt (i : BitVec 3)
  /-- FMULP ST(i),ST (spec R231) -/
  | fmulpStiSt (i : BitVec 3)
  /-- FSUBRP ST(i),ST (spec R232) -/
  | fsubrpStiSt (i : BitVec 3)
  /-- FSUBP ST(i),ST (spec R233) -/
  | fsubpStiSt (i : BitVec 3)
  /-- FDIVRP ST(i),ST (spec R234) -/
  | fdivrpStiSt (i : BitVec 3)
  /-- FDIVP ST(i),ST (spec R235) -/
  | fdivpStiSt (i : BitVec 3)
  /-- FCOMPP (spec R236) -/
  | fcompp (i : BitVec 3)
  /-- FLD m32real (spec R251) -/
  | fldM32real (m : MemOperand)
  /-- FST m32real (spec R252) -/
  | fstM32real (m : MemOperand)
  /-- FSTP m32real (spec R253) -/
  | fstpM32real (m : MemOperand)
  /-- FILD m32int (spec R254) -/
  | fildM32int (m : MemOperand)
  /-- FIST m32int (spec R255) -/
  | fistM32int (m : MemOperand)
  /-- FISTP m32int (spec R256) -/
  | fistpM32int (m : MemOperand)
  /-- FLD m80real (spec R257) -/
  | fldM80real (m : MemOperand)
  /-- FSTP m80real (spec R258) -/
  | fstpM80real (m : MemOperand)
  /-- FLD m64real (spec R259) -/
  | fldM64real (m : MemOperand)
  /-- FST m64real (spec R260) -/
  | fstM64real (m : MemOperand)
  /-- FSTP m64real (spec R261) -/
  | fstpM64real (m : MemOperand)
  /-- FILD m16int (spec R262) -/
  | fildM16int (m : MemOperand)
  /-- FIST m16int (spec R263) -/
  | fistM16int (m : MemOperand)
  /-- FISTP m16int (spec R264) -/
  | fistpM16int (m : MemOperand)
  /-- FILD m64int (spec R265) -/
  | fildM64int (m : MemOperand)
  /-- FISTP m64int (spec R266) -/
  | fistpM64int (m : MemOperand)
  /-- FLD ST(i) (spec R267) -/
  | fldSti (i : BitVec 3)
  /-- FXCH ST(i) (spec R268) -/
  | fxchSti (i : BitVec 3)
  /-- FST ST(i) (spec R269) -/
  | fstSti (i : BitVec 3)
  /-- FSTP ST(i) (spec R270) -/
  | fstpSti (i : BitVec 3)
  /-- FLD1 (spec R271) -/
  | fld1
  /-- FLDL2T (spec R272) -/
  | fldl2t
  /-- FLDL2E (spec R273) -/
  | fldl2e
  /-- FLDPI (spec R274) -/
  | fldpi
  /-- FLDLG2 (spec R275) -/
  | fldlg2
  /-- FLDLN2 (spec R276) -/
  | fldln2
  /-- FLDZ (spec R277) -/
  | fldz
  /-- FCHS (spec R290) -/
  | fchs
  /-- FABS (spec R291) -/
  | fabs
  /-- FTST (spec R292) -/
  | ftst
  /-- FXAM (spec R293) -/
  | fxam
  /-- F2XM1 (spec R294) -/
  | f2xm1
  /-- FYL2X (spec R295) -/
  | fyl2x
  /-- FPTAN (spec R296) -/
  | fptan
  /-- FPATAN (spec R297) -/
  | fpatan
  /-- FXTRACT (spec R298) -/
  | fxtract
  /-- FDECSTP (spec R322) -/
  | fdecstp
  /-- FINCSTP (spec R323) -/
  | fincstp
  /-- FPREM (spec R299) -/
  | fprem
  /-- FYL2XP1 (spec R300) -/
  | fyl2xp1
  /-- FSQRT (spec R301) -/
  | fsqrt
  /-- FRNDINT (spec R302) -/
  | frndint
  /-- FSCALE (spec R303) -/
  | fscale
  /-- FNOP (spec R321) -/
  | fnop
  /-- FLDENV m14 (spec R325) -/
  | fldenvM14 (m : MemOperand)
  /-- FLDCW m16 (spec R324) -/
  | fldcwM16 (m : MemOperand)
  /-- FSTENV m14 (spec R326) -/
  | fstenvM14 (m : MemOperand)
  /-- FSTCW m16 (spec R327) -/
  | fstcwM16 (m : MemOperand)
  /-- FSTSW m16 (spec R328) -/
  | fstswM16 (m : MemOperand)
  /-- FFREE ST(i) (spec R329) -/
  | ffreeSti (i : BitVec 3)
  /-- FINIT (spec R330) -/
  | finit
  /-- FCLEX (spec R331) -/
  | fclex
  /-- FSTSW AX (spec R334) -/
  | fstswAx
  /-- SEGOVR (segment-override trap) (spec R176) -/
  | segovr (se : Byte) (d : Descriptor)
  /-- FWAIT (synchronization trap) (spec R178) -/
  | fwait
  /-- (ignored) D8 register forms (spec R340) -/
  | ignoredD8Reg (op rm : BitVec 3)
  /-- (ignored) DA register forms (spec R340) -/
  | ignoredDaReg (op rm : BitVec 3)
  /-- (ignored) D9 /1 memory (spec R340) -/
  | ignoredD9Mem1 (m : MemOperand)
  /-- (ignored) D9 D1 (D9 /2 rm 1) (spec R340) -/
  | ignoredD9D1
  /-- (ignored) D9 D2 (D9 /2 rm 2) (spec R340) -/
  | ignoredD9D2
  /-- (ignored) D9 D3 (D9 /2 rm 3) (spec R340) -/
  | ignoredD9D3
  /-- (ignored) D9 D4 (D9 /2 rm 4) (spec R340) -/
  | ignoredD9D4
  /-- (ignored) D9 D5 (D9 /2 rm 5) (spec R340) -/
  | ignoredD9D5
  /-- (ignored) D9 D6 (D9 /2 rm 6) (spec R340) -/
  | ignoredD9D6
  /-- (ignored) D9 D7 (D9 /2 rm 7) (spec R340) -/
  | ignoredD9D7
  /-- (ignored) D9 /3 register (D9 D8..DF) (spec R340) -/
  | ignoredD9Reg3 (i : BitVec 3)
  /-- (ignored) D9 E2 (spec R340) -/
  | ignoredD9E2
  /-- (ignored) D9 E3 (spec R340) -/
  | ignoredD9E3
  /-- (ignored) D9 E6 (spec R340) -/
  | ignoredD9E6
  /-- (ignored) D9 E7 (spec R340) -/
  | ignoredD9E7
  /-- (ignored) D9 EF (spec R340) -/
  | ignoredD9Ef
  /-- (ignored) D9 F5 (spec R340) -/
  | ignoredD9F5
  /-- (ignored) D9 FB (spec R340) -/
  | ignoredD9Fb
  /-- (ignored) D9 FE (spec R340) -/
  | ignoredD9Fe
  /-- (ignored) D9 FF (spec R340) -/
  | ignoredD9Ff
  /-- (ignored) DB /1 memory (spec R340) -/
  | ignoredDbMem1 (m : MemOperand)
  /-- (ignored) DB /4 memory (spec R340) -/
  | ignoredDbMem4 (m : MemOperand)
  /-- (ignored) DB /6 memory (spec R340) -/
  | ignoredDbMem6 (m : MemOperand)
  /-- (ignored) DB register forms other than E2, E3 (spec R340) -/
  | ignoredDbReg (op rm : BitVec 3)
  /-- (ignored) DC register op 2 (spec R340) -/
  | ignoredDcReg2 (i : BitVec 3)
  /-- (ignored) DC register op 3 (spec R340) -/
  | ignoredDcReg3 (i : BitVec 3)
  /-- (ignored) DE register op 2 (spec R340) -/
  | ignoredDeReg2 (i : BitVec 3)
  /-- (ignored) DD /1 memory (spec R340) -/
  | ignoredDdMem1 (m : MemOperand)
  /-- (ignored) DD /4 memory (spec R340) -/
  | ignoredDdMem4 (m : MemOperand)
  /-- (ignored) DD /5 memory (spec R340) -/
  | ignoredDdMem5 (m : MemOperand)
  /-- (ignored) DD /6 memory (spec R340) -/
  | ignoredDdMem6 (m : MemOperand)
  /-- (ignored) DD register op 1, 4, 5, 6, 7 (and ops 0, 2, 3 when ddRegForms = ignored) (spec R340) -/
  | ignoredDdReg (op rm : BitVec 3)
  /-- (ignored) DF /1 memory (spec R340) -/
  | ignoredDfMem1 (m : MemOperand)
  /-- (ignored) DF /4 memory (spec R340) -/
  | ignoredDfMem4 (m : MemOperand)
  /-- (ignored) DF /6 memory (spec R340) -/
  | ignoredDfMem6 (m : MemOperand)
  /-- (ignored) DF register forms other than E0 (spec R340) -/
  | ignoredDfReg (op rm : BitVec 3)
  deriving DecidableEq, Repr

end Sys2Proof
end

