-- ==== Sys2Proof/WellFormed.lean ====
section
/-! DEFINITION. Which terms of the syntax are instructions of the table. -/

namespace Sys2Proof

/-- rm 6 with mod 0 is the direct case (spec R98), so a table case with rm 6 has a displacement (spec R99). -/
def MemOperand.wellFormed : MemOperand → Bool
  | .direct _ => true
  | .based rm disp => !(rm == 6 && disp == .none)

/-- A register operand is always well formed. -/
def Operand.wellFormed : Operand → Bool
  | .reg _ => true
  | .mem m => m.wellFormed

/-- A descriptor is well formed when its operand is. -/
def Descriptor.wellFormed (d : Descriptor) : Bool := d.operand.wellFormed

/-- The operands each row of the table admits; the three ignored groups that are "all but" some rows exclude
those rows (spec R107, R340). -/
def Instr.wellFormed : Instr → Bool
  | .faddM32real m => m.wellFormed
  | .fmulM32real m => m.wellFormed
  | .fcomM32real m => m.wellFormed
  | .fcompM32real m => m.wellFormed
  | .fsubM32real m => m.wellFormed
  | .fsubrM32real m => m.wellFormed
  | .fdivM32real m => m.wellFormed
  | .fdivrM32real m => m.wellFormed
  | .fiaddM32int m => m.wellFormed
  | .fimulM32int m => m.wellFormed
  | .ficomM32int m => m.wellFormed
  | .ficompM32int m => m.wellFormed
  | .fisubM32int m => m.wellFormed
  | .fisubrM32int m => m.wellFormed
  | .fidivM32int m => m.wellFormed
  | .fidivrM32int m => m.wellFormed
  | .faddM64real m => m.wellFormed
  | .fmulM64real m => m.wellFormed
  | .fcomM64real m => m.wellFormed
  | .fcompM64real m => m.wellFormed
  | .fsubM64real m => m.wellFormed
  | .fsubrM64real m => m.wellFormed
  | .fdivM64real m => m.wellFormed
  | .fdivrM64real m => m.wellFormed
  | .fiaddM16int m => m.wellFormed
  | .fimulM16int m => m.wellFormed
  | .ficomM16int m => m.wellFormed
  | .ficompM16int m => m.wellFormed
  | .fisubM16int m => m.wellFormed
  | .fisubrM16int m => m.wellFormed
  | .fidivM16int m => m.wellFormed
  | .fidivrM16int m => m.wellFormed
  | .faddStiSt _ => true
  | .fmulStiSt _ => true
  | .fsubrStiSt _ => true
  | .fsubStiSt _ => true
  | .fdivrStiSt _ => true
  | .fdivStiSt _ => true
  | .faddpStiSt _ => true
  | .fmulpStiSt _ => true
  | .fsubrpStiSt _ => true
  | .fsubpStiSt _ => true
  | .fdivrpStiSt _ => true
  | .fdivpStiSt _ => true
  | .fcompp _ => true
  | .fldM32real m => m.wellFormed
  | .fstM32real m => m.wellFormed
  | .fstpM32real m => m.wellFormed
  | .fildM32int m => m.wellFormed
  | .fistM32int m => m.wellFormed
  | .fistpM32int m => m.wellFormed
  | .fldM80real m => m.wellFormed
  | .fstpM80real m => m.wellFormed
  | .fldM64real m => m.wellFormed
  | .fstM64real m => m.wellFormed
  | .fstpM64real m => m.wellFormed
  | .fildM16int m => m.wellFormed
  | .fistM16int m => m.wellFormed
  | .fistpM16int m => m.wellFormed
  | .fildM64int m => m.wellFormed
  | .fistpM64int m => m.wellFormed
  | .fldSti _ => true
  | .fxchSti _ => true
  | .fstSti _ => true
  | .fstpSti _ => true
  | .fld1 => true
  | .fldl2t => true
  | .fldl2e => true
  | .fldpi => true
  | .fldlg2 => true
  | .fldln2 => true
  | .fldz => true
  | .fchs => true
  | .fabs => true
  | .ftst => true
  | .fxam => true
  | .f2xm1 => true
  | .fyl2x => true
  | .fptan => true
  | .fpatan => true
  | .fxtract => true
  | .fdecstp => true
  | .fincstp => true
  | .fprem => true
  | .fyl2xp1 => true
  | .fsqrt => true
  | .frndint => true
  | .fscale => true
  | .fnop => true
  | .fldenvM14 m => m.wellFormed
  | .fldcwM16 m => m.wellFormed
  | .fstenvM14 m => m.wellFormed
  | .fstcwM16 m => m.wellFormed
  | .fstswM16 m => m.wellFormed
  | .ffreeSti _ => true
  | .finit => true
  | .fclex => true
  | .fstswAx => true
  | .segovr _ d => d.wellFormed
  | .fwait => true
  | .ignoredD8Reg _ _ => true
  | .ignoredDaReg _ _ => true
  | .ignoredD9Mem1 m => m.wellFormed
  | .ignoredD9D1 => true
  | .ignoredD9D2 => true
  | .ignoredD9D3 => true
  | .ignoredD9D4 => true
  | .ignoredD9D5 => true
  | .ignoredD9D6 => true
  | .ignoredD9D7 => true
  | .ignoredD9Reg3 _ => true
  | .ignoredD9E2 => true
  | .ignoredD9E3 => true
  | .ignoredD9E6 => true
  | .ignoredD9E7 => true
  | .ignoredD9Ef => true
  | .ignoredD9F5 => true
  | .ignoredD9Fb => true
  | .ignoredD9Fe => true
  | .ignoredD9Ff => true
  | .ignoredDbMem1 m => m.wellFormed
  | .ignoredDbMem4 m => m.wellFormed
  | .ignoredDbMem6 m => m.wellFormed
  | .ignoredDbReg op rm => !(op == 4 && (rm == 2 || rm == 3))
  | .ignoredDcReg2 _ => true
  | .ignoredDcReg3 _ => true
  | .ignoredDeReg2 _ => true
  | .ignoredDdMem1 m => m.wellFormed
  | .ignoredDdMem4 m => m.wellFormed
  | .ignoredDdMem5 m => m.wellFormed
  | .ignoredDdMem6 m => m.wellFormed
  | .ignoredDdReg op _ => !(op == 0 || op == 2 || op == 3)
  | .ignoredDfMem1 m => m.wellFormed
  | .ignoredDfMem4 m => m.wellFormed
  | .ignoredDfMem6 m => m.wellFormed
  | .ignoredDfReg op rm => !(op == 4 && rm == 0)

end Sys2Proof
end

