-- ==== Sys2Proof/Decode.lean ====
section
/-! DEFINITION. The operand decoder and the opcode map (spec 30_encoding.md), total on every byte sequence, and
the encoder written from the same tables. -/

namespace Sys2Proof

/-- The software-interrupt opcode that begins every trap sequence (spec R90). -/
def intOpcode : Byte := 0xCD

/-- e of the ESC byte D8 + e (spec R91). -/
def Esc.number : Esc → BitVec 3
  | .d8 => 0
  | .d9 => 1
  | .da => 2
  | .db => 3
  | .dc => 4
  | .dd => 5
  | .de => 6
  | .df => 7

/-- The primary vector of the ESC selector e (spec R91, R92). -/
def Esc.ofNumber (e : BitVec 3) : Esc :=
  match e.toNat with
  | 0 => .d8
  | 1 => .d9
  | 2 => .da
  | 3 => .db
  | 4 => .dc
  | 5 => .dd
  | 6 => .de
  | _ => .df

/-- The ten trap vectors (spec R171). -/
inductive TrapVector where
  | primary (e : Esc)
  | segovr
  | fwait
  deriving DecidableEq, Repr

/-- The number of a vector: vecBase + e, vecBase + 8 and vecBase + 9 (spec R171). DESIGN CHOICE: the sums are taken
modulo 2^8; the spec says nothing of a vecBase above 0xF6 (assumption log 25). -/
def TrapVector.number (base : Byte) : TrapVector → Byte
  | .primary e => base + e.number.zeroExtend 8
  | .segovr => base + 8
  | .fwait => base + 9

/-- The vector of a number; the numbers outside the ten are not this block's (spec R110). DESIGN CHOICE: e is
vv - vecBase modulo 2^8, so for a vecBase above 0xF6, of which the spec says nothing, numbers from 0x00 up count among
the ten (assumption log 25). -/
def TrapVector.ofNumber (base vv : Byte) : Option TrapVector :=
  match (vv - base).toNat with
  | 0 => some (.primary .d8)
  | 1 => some (.primary .d9)
  | 2 => some (.primary .da)
  | 3 => some (.primary .db)
  | 4 => some (.primary .dc)
  | 5 => some (.primary .dd)
  | 6 => some (.primary .de)
  | 7 => some (.primary .df)
  | 8 => some .segovr
  | 9 => some .fwait
  | _ => none

/-- Displacement length (spec R100). -/
def Disp.size : Disp → Nat
  | .none => 0
  | .byte _ => 1
  | .word _ => 2

/-- `skipBytes` of a memory descriptor (spec R104). -/
def MemOperand.skip : MemOperand → Nat
  | .direct _ => 3
  | .based _ disp => 1 + disp.size

/-- `skipBytes` (spec R104); 1 for a register operand (spec R97). -/
def Operand.skip : Operand → Nat
  | .reg _ => 1
  | .mem m => m.skip

/-- `skipBytes` of a descriptor: it does not depend on the opcodeField (spec R94). -/
def Descriptor.skip (d : Descriptor) : Nat := d.operand.skip

/-- mod = m[7:6] (spec R96). -/
def modField (m : Byte) : BitVec 2 := m.extractLsb' 6 2

/-- opcodeField = m[5:3] (spec R96). -/
def opField (m : Byte) : BitVec 3 := m.extractLsb' 3 3

/-- rmField = m[2:0] (spec R96). -/
def rmField (m : Byte) : BitVec 3 := m.extractLsb' 0 3

/-- A 16-bit displacement, low byte first (spec R98, R100). -/
def dispWord (lo hi : Byte) : Word := hi ++ lo

/-- The operand `mod` and `rm` select (spec R97 to R100), from the descriptor byte and the two bytes after it;
the bytes an addressing form does not use are ignored. -/
def decodeOperand (m b1 b2 : Byte) : Operand :=
  match (modField m).toNat with
  | 0 => .mem (if rmField m = 6 then .direct (dispWord b1 b2) else .based (rmField m) .none)
  | 1 => .mem (.based (rmField m) (.byte b1))
  | 2 => .mem (.based (rmField m) (.word (dispWord b1 b2)))
  | _ => .reg (rmField m)

/-- The operand decoder: every descriptor byte decodes (spec R103, R109). -/
def decodeDescriptor (m b1 b2 : Byte) : Descriptor :=
  { op := opField m, operand := decodeOperand m b1 b2 }

/-- The descriptor byte mod, op, rm (spec R96). -/
def descriptorByte (mod : BitVec 2) (op rm : BitVec 3) : Byte := mod ++ op ++ rm

/-- The bytes of a memory descriptor (spec R97 to R100). -/
def MemOperand.bytes (op : BitVec 3) : MemOperand → List Byte
  | .direct disp => [descriptorByte 0 op 6, disp.extractLsb' 0 8, disp.extractLsb' 8 8]
  | .based rm .none => [descriptorByte 0 op rm]
  | .based rm (.byte d) => [descriptorByte 1 op rm, d]
  | .based rm (.word d) => [descriptorByte 2 op rm, d.extractLsb' 0 8, d.extractLsb' 8 8]

/-- The bytes of a descriptor and its displacement. -/
def Descriptor.bytes (d : Descriptor) : List Byte :=
  match d.operand with
  | .reg rm => [descriptorByte 3 d.op rm]
  | .mem m => m.bytes d.op

/-- The three trap-sequence formats (spec R90): P, S and W. -/
inductive Format where
  | primary (e : Esc) (d : Descriptor)
  | override (se : Byte) (d : Descriptor)
  | sync
  deriving DecidableEq, Repr

/-- e of the segment-override byte, SE[2:0] (spec R92). -/
def seEsc (se : Byte) : Esc := Esc.ofNumber (se.extractLsb' 0 3)

/-- The segment code of the segment-override byte, SE[7:6] (spec R92). -/
def seCode (se : Byte) : BitVec 2 := se.extractLsb' 6 2

/-- Memory forms of vector D8 (spec R106). -/
def instrMemD8 (op : BitVec 3) (m : MemOperand) : Instr :=
  match op.toNat with
  | 0 => .faddM32real m
  | 1 => .fmulM32real m
  | 2 => .fcomM32real m
  | 3 => .fcompM32real m
  | 4 => .fsubM32real m
  | 5 => .fsubrM32real m
  | 6 => .fdivM32real m
  | _ => .fdivrM32real m

/-- Register forms of vector D8 (spec R107). -/
def instrRegD8 (op rm : BitVec 3) : Instr :=
  .ignoredD8Reg op rm

/-- Memory forms of vector D9 (spec R106). -/
def instrMemD9 (op : BitVec 3) (m : MemOperand) : Instr :=
  match op.toNat with
  | 0 => .fldM32real m
  | 1 => .ignoredD9Mem1 m
  | 2 => .fstM32real m
  | 3 => .fstpM32real m
  | 4 => .fldenvM14 m
  | 5 => .fldcwM16 m
  | 6 => .fstenvM14 m
  | _ => .fstcwM16 m

/-- Register forms of vector D9 (spec R107). -/
def instrRegD9 (op rm : BitVec 3) : Instr :=
  match op.toNat, rm.toNat with
  | 0, _ => .fldSti rm
  | 1, _ => .fxchSti rm
  | 2, 0 => .fnop
  | 2, 1 => .ignoredD9D1
  | 2, 2 => .ignoredD9D2
  | 2, 3 => .ignoredD9D3
  | 2, 4 => .ignoredD9D4
  | 2, 5 => .ignoredD9D5
  | 2, 6 => .ignoredD9D6
  | 2, _ => .ignoredD9D7
  | 3, _ => .ignoredD9Reg3 rm
  | 4, 0 => .fchs
  | 4, 1 => .fabs
  | 4, 2 => .ignoredD9E2
  | 4, 3 => .ignoredD9E3
  | 4, 4 => .ftst
  | 4, 5 => .fxam
  | 4, 6 => .ignoredD9E6
  | 4, _ => .ignoredD9E7
  | 5, 0 => .fld1
  | 5, 1 => .fldl2t
  | 5, 2 => .fldl2e
  | 5, 3 => .fldpi
  | 5, 4 => .fldlg2
  | 5, 5 => .fldln2
  | 5, 6 => .fldz
  | 5, _ => .ignoredD9Ef
  | 6, 0 => .f2xm1
  | 6, 1 => .fyl2x
  | 6, 2 => .fptan
  | 6, 3 => .fpatan
  | 6, 4 => .fxtract
  | 6, 5 => .ignoredD9F5
  | 6, 6 => .fdecstp
  | 6, _ => .fincstp
  | _, 0 => .fprem
  | _, 1 => .fyl2xp1
  | _, 2 => .fsqrt
  | _, 3 => .ignoredD9Fb
  | _, 4 => .frndint
  | _, 5 => .fscale
  | _, 6 => .ignoredD9Fe
  | _, _ => .ignoredD9Ff

/-- Memory forms of vector DA (spec R106). -/
def instrMemDA (op : BitVec 3) (m : MemOperand) : Instr :=
  match op.toNat with
  | 0 => .fiaddM32int m
  | 1 => .fimulM32int m
  | 2 => .ficomM32int m
  | 3 => .ficompM32int m
  | 4 => .fisubM32int m
  | 5 => .fisubrM32int m
  | 6 => .fidivM32int m
  | _ => .fidivrM32int m

/-- Register forms of vector DA (spec R107). -/
def instrRegDA (op rm : BitVec 3) : Instr :=
  .ignoredDaReg op rm

/-- Memory forms of vector DB (spec R106). -/
def instrMemDB (op : BitVec 3) (m : MemOperand) : Instr :=
  match op.toNat with
  | 0 => .fildM32int m
  | 1 => .ignoredDbMem1 m
  | 2 => .fistM32int m
  | 3 => .fistpM32int m
  | 4 => .ignoredDbMem4 m
  | 5 => .fldM80real m
  | 6 => .ignoredDbMem6 m
  | _ => .fstpM80real m

/-- Register forms of vector DB (spec R107). -/
def instrRegDB (op rm : BitVec 3) : Instr :=
  match op.toNat, rm.toNat with
  | 4, 2 => .fclex
  | 4, 3 => .finit
  | _, _ => .ignoredDbReg op rm

/-- Memory forms of vector DC (spec R106). -/
def instrMemDC (op : BitVec 3) (m : MemOperand) : Instr :=
  match op.toNat with
  | 0 => .faddM64real m
  | 1 => .fmulM64real m
  | 2 => .fcomM64real m
  | 3 => .fcompM64real m
  | 4 => .fsubM64real m
  | 5 => .fsubrM64real m
  | 6 => .fdivM64real m
  | _ => .fdivrM64real m

/-- Register forms of vector DC (spec R107). -/
def instrRegDC (op rm : BitVec 3) : Instr :=
  match op.toNat, rm.toNat with
  | 0, _ => .faddStiSt rm
  | 1, _ => .fmulStiSt rm
  | 2, _ => .ignoredDcReg2 rm
  | 3, _ => .ignoredDcReg3 rm
  | 4, _ => .fsubrStiSt rm
  | 5, _ => .fsubStiSt rm
  | 6, _ => .fdivrStiSt rm
  | _, _ => .fdivStiSt rm

/-- Memory forms of vector DD (spec R106). -/
def instrMemDD (op : BitVec 3) (m : MemOperand) : Instr :=
  match op.toNat with
  | 0 => .fldM64real m
  | 1 => .ignoredDdMem1 m
  | 2 => .fstM64real m
  | 3 => .fstpM64real m
  | 4 => .ignoredDdMem4 m
  | 5 => .ignoredDdMem5 m
  | 6 => .ignoredDdMem6 m
  | _ => .fstswM16 m

/-- Register forms of vector DD (spec R107). -/
def instrRegDD (op rm : BitVec 3) : Instr :=
  match op.toNat, rm.toNat with
  | 0, _ => .ffreeSti rm
  | 2, _ => .fstSti rm
  | 3, _ => .fstpSti rm
  | _, _ => .ignoredDdReg op rm

/-- Memory forms of vector DE (spec R106). -/
def instrMemDE (op : BitVec 3) (m : MemOperand) : Instr :=
  match op.toNat with
  | 0 => .fiaddM16int m
  | 1 => .fimulM16int m
  | 2 => .ficomM16int m
  | 3 => .ficompM16int m
  | 4 => .fisubM16int m
  | 5 => .fisubrM16int m
  | 6 => .fidivM16int m
  | _ => .fidivrM16int m

/-- Register forms of vector DE (spec R107). -/
def instrRegDE (op rm : BitVec 3) : Instr :=
  match op.toNat, rm.toNat with
  | 0, _ => .faddpStiSt rm
  | 1, _ => .fmulpStiSt rm
  | 2, _ => .ignoredDeReg2 rm
  | 3, _ => .fcompp rm
  | 4, _ => .fsubrpStiSt rm
  | 5, _ => .fsubpStiSt rm
  | 6, _ => .fdivrpStiSt rm
  | _, _ => .fdivpStiSt rm

/-- Memory forms of vector DF (spec R106). -/
def instrMemDF (op : BitVec 3) (m : MemOperand) : Instr :=
  match op.toNat with
  | 0 => .fildM16int m
  | 1 => .ignoredDfMem1 m
  | 2 => .fistM16int m
  | 3 => .fistpM16int m
  | 4 => .ignoredDfMem4 m
  | 5 => .fildM64int m
  | 6 => .ignoredDfMem6 m
  | _ => .fistpM64int m

/-- Register forms of vector DF (spec R107). -/
def instrRegDF (op rm : BitVec 3) : Instr :=
  match op.toNat, rm.toNat with
  | 4, 0 => .fstswAx
  | _, _ => .ignoredDfReg op rm

/-- The opcode map (spec R106 to R108): every (vector, mode, op, rm) has exactly one entry (spec R175). -/
def instrOf (e : Esc) (d : Descriptor) : Instr :=
  match e, d.operand with
  | .d8, .mem m => instrMemD8 d.op m
  | .d8, .reg rm => instrRegD8 d.op rm
  | .d9, .mem m => instrMemD9 d.op m
  | .d9, .reg rm => instrRegD9 d.op rm
  | .da, .mem m => instrMemDA d.op m
  | .da, .reg rm => instrRegDA d.op rm
  | .db, .mem m => instrMemDB d.op m
  | .db, .reg rm => instrRegDB d.op rm
  | .dc, .mem m => instrMemDC d.op m
  | .dc, .reg rm => instrRegDC d.op rm
  | .dd, .mem m => instrMemDD d.op m
  | .dd, .reg rm => instrRegDD d.op rm
  | .de, .mem m => instrMemDE d.op m
  | .de, .reg rm => instrRegDE d.op rm
  | .df, .mem m => instrMemDF d.op m
  | .df, .reg rm => instrRegDF d.op rm

/-- The instruction of a trap sequence. -/
def Format.instr : Format → Instr
  | .primary e d => instrOf e d
  | .override se d => .segovr se d
  | .sync => .fwait

/-- The trap sequence that stands for an instruction, by the same map read the other way. -/
def Instr.format : Instr → Format
  | .faddM32real m => .primary .d8 ⟨0, .mem m⟩
  | .fmulM32real m => .primary .d8 ⟨1, .mem m⟩
  | .fcomM32real m => .primary .d8 ⟨2, .mem m⟩
  | .fcompM32real m => .primary .d8 ⟨3, .mem m⟩
  | .fsubM32real m => .primary .d8 ⟨4, .mem m⟩
  | .fsubrM32real m => .primary .d8 ⟨5, .mem m⟩
  | .fdivM32real m => .primary .d8 ⟨6, .mem m⟩
  | .fdivrM32real m => .primary .d8 ⟨7, .mem m⟩
  | .fiaddM32int m => .primary .da ⟨0, .mem m⟩
  | .fimulM32int m => .primary .da ⟨1, .mem m⟩
  | .ficomM32int m => .primary .da ⟨2, .mem m⟩
  | .ficompM32int m => .primary .da ⟨3, .mem m⟩
  | .fisubM32int m => .primary .da ⟨4, .mem m⟩
  | .fisubrM32int m => .primary .da ⟨5, .mem m⟩
  | .fidivM32int m => .primary .da ⟨6, .mem m⟩
  | .fidivrM32int m => .primary .da ⟨7, .mem m⟩
  | .faddM64real m => .primary .dc ⟨0, .mem m⟩
  | .fmulM64real m => .primary .dc ⟨1, .mem m⟩
  | .fcomM64real m => .primary .dc ⟨2, .mem m⟩
  | .fcompM64real m => .primary .dc ⟨3, .mem m⟩
  | .fsubM64real m => .primary .dc ⟨4, .mem m⟩
  | .fsubrM64real m => .primary .dc ⟨5, .mem m⟩
  | .fdivM64real m => .primary .dc ⟨6, .mem m⟩
  | .fdivrM64real m => .primary .dc ⟨7, .mem m⟩
  | .fiaddM16int m => .primary .de ⟨0, .mem m⟩
  | .fimulM16int m => .primary .de ⟨1, .mem m⟩
  | .ficomM16int m => .primary .de ⟨2, .mem m⟩
  | .ficompM16int m => .primary .de ⟨3, .mem m⟩
  | .fisubM16int m => .primary .de ⟨4, .mem m⟩
  | .fisubrM16int m => .primary .de ⟨5, .mem m⟩
  | .fidivM16int m => .primary .de ⟨6, .mem m⟩
  | .fidivrM16int m => .primary .de ⟨7, .mem m⟩
  | .faddStiSt i => .primary .dc ⟨0, .reg i⟩
  | .fmulStiSt i => .primary .dc ⟨1, .reg i⟩
  | .fsubrStiSt i => .primary .dc ⟨4, .reg i⟩
  | .fsubStiSt i => .primary .dc ⟨5, .reg i⟩
  | .fdivrStiSt i => .primary .dc ⟨6, .reg i⟩
  | .fdivStiSt i => .primary .dc ⟨7, .reg i⟩
  | .faddpStiSt i => .primary .de ⟨0, .reg i⟩
  | .fmulpStiSt i => .primary .de ⟨1, .reg i⟩
  | .fsubrpStiSt i => .primary .de ⟨4, .reg i⟩
  | .fsubpStiSt i => .primary .de ⟨5, .reg i⟩
  | .fdivrpStiSt i => .primary .de ⟨6, .reg i⟩
  | .fdivpStiSt i => .primary .de ⟨7, .reg i⟩
  | .fcompp i => .primary .de ⟨3, .reg i⟩
  | .fldM32real m => .primary .d9 ⟨0, .mem m⟩
  | .fstM32real m => .primary .d9 ⟨2, .mem m⟩
  | .fstpM32real m => .primary .d9 ⟨3, .mem m⟩
  | .fildM32int m => .primary .db ⟨0, .mem m⟩
  | .fistM32int m => .primary .db ⟨2, .mem m⟩
  | .fistpM32int m => .primary .db ⟨3, .mem m⟩
  | .fldM80real m => .primary .db ⟨5, .mem m⟩
  | .fstpM80real m => .primary .db ⟨7, .mem m⟩
  | .fldM64real m => .primary .dd ⟨0, .mem m⟩
  | .fstM64real m => .primary .dd ⟨2, .mem m⟩
  | .fstpM64real m => .primary .dd ⟨3, .mem m⟩
  | .fildM16int m => .primary .df ⟨0, .mem m⟩
  | .fistM16int m => .primary .df ⟨2, .mem m⟩
  | .fistpM16int m => .primary .df ⟨3, .mem m⟩
  | .fildM64int m => .primary .df ⟨5, .mem m⟩
  | .fistpM64int m => .primary .df ⟨7, .mem m⟩
  | .fldSti i => .primary .d9 ⟨0, .reg i⟩
  | .fxchSti i => .primary .d9 ⟨1, .reg i⟩
  | .fstSti i => .primary .dd ⟨2, .reg i⟩
  | .fstpSti i => .primary .dd ⟨3, .reg i⟩
  | .fld1 => .primary .d9 ⟨5, .reg 0⟩
  | .fldl2t => .primary .d9 ⟨5, .reg 1⟩
  | .fldl2e => .primary .d9 ⟨5, .reg 2⟩
  | .fldpi => .primary .d9 ⟨5, .reg 3⟩
  | .fldlg2 => .primary .d9 ⟨5, .reg 4⟩
  | .fldln2 => .primary .d9 ⟨5, .reg 5⟩
  | .fldz => .primary .d9 ⟨5, .reg 6⟩
  | .fchs => .primary .d9 ⟨4, .reg 0⟩
  | .fabs => .primary .d9 ⟨4, .reg 1⟩
  | .ftst => .primary .d9 ⟨4, .reg 4⟩
  | .fxam => .primary .d9 ⟨4, .reg 5⟩
  | .f2xm1 => .primary .d9 ⟨6, .reg 0⟩
  | .fyl2x => .primary .d9 ⟨6, .reg 1⟩
  | .fptan => .primary .d9 ⟨6, .reg 2⟩
  | .fpatan => .primary .d9 ⟨6, .reg 3⟩
  | .fxtract => .primary .d9 ⟨6, .reg 4⟩
  | .fdecstp => .primary .d9 ⟨6, .reg 6⟩
  | .fincstp => .primary .d9 ⟨6, .reg 7⟩
  | .fprem => .primary .d9 ⟨7, .reg 0⟩
  | .fyl2xp1 => .primary .d9 ⟨7, .reg 1⟩
  | .fsqrt => .primary .d9 ⟨7, .reg 2⟩
  | .frndint => .primary .d9 ⟨7, .reg 4⟩
  | .fscale => .primary .d9 ⟨7, .reg 5⟩
  | .fnop => .primary .d9 ⟨2, .reg 0⟩
  | .fldenvM14 m => .primary .d9 ⟨4, .mem m⟩
  | .fldcwM16 m => .primary .d9 ⟨5, .mem m⟩
  | .fstenvM14 m => .primary .d9 ⟨6, .mem m⟩
  | .fstcwM16 m => .primary .d9 ⟨7, .mem m⟩
  | .fstswM16 m => .primary .dd ⟨7, .mem m⟩
  | .ffreeSti i => .primary .dd ⟨0, .reg i⟩
  | .finit => .primary .db ⟨4, .reg 3⟩
  | .fclex => .primary .db ⟨4, .reg 2⟩
  | .fstswAx => .primary .df ⟨4, .reg 0⟩
  | .segovr se d => .override se d
  | .fwait => .sync
  | .ignoredD8Reg op rm => .primary .d8 ⟨op, .reg rm⟩
  | .ignoredDaReg op rm => .primary .da ⟨op, .reg rm⟩
  | .ignoredD9Mem1 m => .primary .d9 ⟨1, .mem m⟩
  | .ignoredD9D1 => .primary .d9 ⟨2, .reg 1⟩
  | .ignoredD9D2 => .primary .d9 ⟨2, .reg 2⟩
  | .ignoredD9D3 => .primary .d9 ⟨2, .reg 3⟩
  | .ignoredD9D4 => .primary .d9 ⟨2, .reg 4⟩
  | .ignoredD9D5 => .primary .d9 ⟨2, .reg 5⟩
  | .ignoredD9D6 => .primary .d9 ⟨2, .reg 6⟩
  | .ignoredD9D7 => .primary .d9 ⟨2, .reg 7⟩
  | .ignoredD9Reg3 i => .primary .d9 ⟨3, .reg i⟩
  | .ignoredD9E2 => .primary .d9 ⟨4, .reg 2⟩
  | .ignoredD9E3 => .primary .d9 ⟨4, .reg 3⟩
  | .ignoredD9E6 => .primary .d9 ⟨4, .reg 6⟩
  | .ignoredD9E7 => .primary .d9 ⟨4, .reg 7⟩
  | .ignoredD9Ef => .primary .d9 ⟨5, .reg 7⟩
  | .ignoredD9F5 => .primary .d9 ⟨6, .reg 5⟩
  | .ignoredD9Fb => .primary .d9 ⟨7, .reg 3⟩
  | .ignoredD9Fe => .primary .d9 ⟨7, .reg 6⟩
  | .ignoredD9Ff => .primary .d9 ⟨7, .reg 7⟩
  | .ignoredDbMem1 m => .primary .db ⟨1, .mem m⟩
  | .ignoredDbMem4 m => .primary .db ⟨4, .mem m⟩
  | .ignoredDbMem6 m => .primary .db ⟨6, .mem m⟩
  | .ignoredDbReg op rm => .primary .db ⟨op, .reg rm⟩
  | .ignoredDcReg2 i => .primary .dc ⟨2, .reg i⟩
  | .ignoredDcReg3 i => .primary .dc ⟨3, .reg i⟩
  | .ignoredDeReg2 i => .primary .de ⟨2, .reg i⟩
  | .ignoredDdMem1 m => .primary .dd ⟨1, .mem m⟩
  | .ignoredDdMem4 m => .primary .dd ⟨4, .mem m⟩
  | .ignoredDdMem5 m => .primary .dd ⟨5, .mem m⟩
  | .ignoredDdMem6 m => .primary .dd ⟨6, .mem m⟩
  | .ignoredDdReg op rm => .primary .dd ⟨op, .reg rm⟩
  | .ignoredDfMem1 m => .primary .df ⟨1, .mem m⟩
  | .ignoredDfMem4 m => .primary .df ⟨4, .mem m⟩
  | .ignoredDfMem6 m => .primary .df ⟨6, .mem m⟩
  | .ignoredDfReg op rm => .primary .df ⟨op, .reg rm⟩

/-- The vector of a trap sequence (spec R90). -/
def Format.vector : Format → TrapVector
  | .primary e _ => .primary e
  | .override _ _ => .segovr
  | .sync => .fwait

/-- The operand bytes, those after `CD vv` (spec R90). -/
def Format.operandBytes : Format → List Byte
  | .primary _ d => d.bytes
  | .override se d => se :: d.bytes
  | .sync => []

/-- `skipTotal` (spec R179): the number of operand bytes the patch moves past. -/
def Format.skipTotal : Format → Nat
  | .primary _ d => d.skip
  | .override _ d => 1 + d.skip
  | .sync => 0

/-- The operand bytes of an instruction. -/
def Instr.operandBytes (i : Instr) : List Byte := i.format.operandBytes

/-- `skipTotal` of an instruction (spec R179). -/
def Instr.skipTotal (i : Instr) : Nat := i.format.skipTotal

/-- The encoder: the trap sequence of an instruction in ascending address order (spec R90). -/
def encode (base : Byte) (i : Instr) : List Byte :=
  intOpcode :: i.format.vector.number base :: i.operandBytes

/-- The format a vector and the four bytes at the return address give; the bytes it does not use are
ignored (spec R90, R92, R95). Total (spec R109). -/
def decodeFormat (v : TrapVector) (b0 b1 b2 b3 : Byte) : Format :=
  match v with
  | .primary e => .primary e (decodeDescriptor b0 b1 b2)
  | .segovr => .override b0 (decodeDescriptor b1 b2 b3)
  | .fwait => .sync

/-- The instruction a vector and the bytes at the return address give. -/
def decodeTrap (v : TrapVector) (b0 b1 b2 b3 : Byte) : Instr := (decodeFormat v b0 b1 b2 b3).instr

/-- Why a byte sequence is no trap sequence of this block. -/
inductive DecodeError where
  /-- the first byte is not `CD`: an instruction of the collaborator's CPU (spec R4) -/
  | notATrap
  /-- the vector number is none of the ten (spec R110) -/
  | foreignVector
  /-- the sequence ends before its last operand byte -/
  | truncated
  deriving DecidableEq, Repr

/-- The decoder of a byte sequence: the instruction and the bytes after it. -/
def decode (base : Byte) : List Byte → Except DecodeError (Instr × List Byte)
  | [] => .error .truncated
  | [b] => if b = intOpcode then .error .truncated else .error .notATrap
  | b :: vv :: rest =>
    if b ≠ intOpcode then .error .notATrap
    else match TrapVector.ofNumber base vv with
      | none => .error .foreignVector
      | some v =>
        let f := decodeFormat v (rest.getD 0 0) (rest.getD 1 0) (rest.getD 2 0) (rest.getD 3 0)
        if rest.length < f.skipTotal then .error .truncated
        else .ok (f.instr, rest.drop f.skipTotal)

/-- The trap sequence of a word of the opcode table, zeros after it: a 16-bit key is (ESC << 8) | ModRM, whose
ESC byte D8 + e stands for vector vecBase + e; an 8-bit row is the vector number itself (assumption log 19). -/
def tableBytes (base : Byte) (nbits w : Nat) : List Byte :=
  if nbits = 16 then
    if 0xD8 ≤ w / 256 ∧ w / 256 ≤ 0xDF then
      [intOpcode, base + BitVec.ofNat 8 (w / 256 - 0xD8), BitVec.ofNat 8 w, 0, 0, 0]
    else []
  else if nbits = 8 then [intOpcode, BitVec.ofNat 8 w, 0, 0, 0, 0]
  else []

/-- What the decoder reads from an instruction whose table bits are `w`. -/
def decodeTableWord (nbits w : Nat) : Option Instr :=
  match decode Params.default.vecBase (tableBytes Params.default.vecBase nbits w) with
  | .ok (i, _) => some i
  | .error _ => none

end Sys2Proof
end

