-- ==== Sys2Proof/Machine/State.lean ====
section
/-! DEFINITION. The state as plain data, its reset value, and the reasons a step can stop. -/

namespace Sys2Proof.Machine

/-- The tag of a slot (spec R23). -/
inductive Tag where
  | valid | zero | special | empty
  deriving DecidableEq, Repr

/-- The block's own persistent state, exactly the four pieces of spec R20. TOP is the field SW[13:11] (spec
R25) and TW a view of the tags (spec R29). -/
structure Block where
  /-- R[0..7], binary64 patterns (spec R21) -/
  regs : Vector Double 8
  /-- TAG[0..7] (spec R23) -/
  tags : Vector Tag 8
  /-- SW, the status word (spec R26) -/
  sw : Word
  /-- CW, the control word (spec R28) -/
  cw : Word
  deriving DecidableEq, Repr

/-- The collaborator's registers the block reads or writes (spec R42, R43, R44). -/
structure Guest where
  ax : Word
  bx : Word
  si : Word
  di : Word
  bp : Word
  sp : Word
  cs : Word
  ds : Word
  es : Word
  ss : Word
  /-- the guest program counter is CS:IP (spec R43) -/
  ip : Word
  /-- saved and restored by trap entry and return (spec R355, R356) -/
  flags : Word
  /-- the active segment-override register (spec R44) -/
  override : Option SegReg
  deriving DecidableEq, Repr

/-- The guest's memory: (address, byte) pairs, addresses strictly rising, no entry equal to what an unlisted
address reads as. -/
abbrev Memory := List Host.Cell

/-- The machine. `params` and `draws` are the model's own fields (assumption logs 8 and 7). -/
structure State where
  block : Block
  guest : Guest
  mem : Memory
  /-- a transaction of this context is in progress (spec R357) -/
  inTransaction : Bool
  /-- the open parameters of spec R9; no step writes them -/
  params : Params
  /-- how many free values have been drawn -/
  draws : Nat
  deriving DecidableEq, Repr

/-- Faults: none. "No fault-reporting taxonomy exists in this core" (spec R350); no condition of the block is a
fault (spec R352). Nothing raises one, and that is safe: the type says so. -/
inductive Fault where
  deriving DecidableEq, Repr

/-- Refusals. -/
inductive Refusal where
  /-- Raised by an arm of `exec` whose instruction has no meaning yet; safe (nothing is claimed of it). -/
  | notModelled (mnemonic : String)
  /-- Raised by `step` on a trap entered while a transaction of the same context is in progress (spec R352,
  R357); safe: the spec assumes it never happens and asks a model to refuse it (assumption log 14). -/
  | nestedTrap
  /-- Raised by `step` when the byte at CS:IP is not `CD`: an instruction of the collaborator's CPU, which is
  out of scope (spec R4); safe (assumption log 15). -/
  | guestInstruction (opcode : Byte)
  /-- Raised by `step` when the vector is none of the ten, another handler of the collaborator's (spec R110);
  safe (assumption log 15). -/
  | foreignVector (number : Byte)
  deriving DecidableEq, Repr

/-- What a meaning answers. -/
abbrev Answer := Host.Outcome State Fault Refusal

/-- The block's reset state (spec R48, R370). The slots hold +0.0: the spec gives no value (assumption log 4). -/
def Block.reset : Block where
  regs := Vector.replicate 8 0
  tags := Vector.replicate 8 Tag.empty
  sw := 0x0000
  cw := 0x037F

/-- The guest registers right after reset, the 8086 family's values (assumption logs 2 and 3); the override is
none (spec R370). -/
def Guest.reset : Guest where
  ax := 0
  bx := 0
  si := 0
  di := 0
  bp := 0
  sp := 0
  cs := 0xFFFF
  ds := 0
  es := 0
  ss := 0
  ip := 0
  flags := 0
  override := none

/-- The machine right after the creation of the process context (spec R370, R372). -/
def State.reset : State where
  block := Block.reset
  guest := Guest.reset
  mem := []
  inTransaction := false
  params := Params.default
  draws := 0

end Sys2Proof.Machine
end

