-- ==== Sys2Proof/Machine/Flags.lean ====
section
/-! DEFINITION. The fields of the status word, the tags and their word, and every condition-code computation
(spec R23 to R29, R37 to R39, R293). -/

namespace Sys2Proof.Machine

/-- SW[13:11] (spec R25). -/
def swTop (sw : Word) : BitVec 3 := sw.extractLsb' 11 3

/-- SW with TOP replaced and every other bit kept (spec R25). -/
def swWithTop (sw : Word) (top : BitVec 3) : Word :=
  sw.extractLsb' 14 2 ++ top ++ sw.extractLsb' 0 11

/-- SW with bit `k` written and every other bit kept. -/
def swWithBit (sw : Word) (k : Nat) (b : Bool) : Word :=
  if b then sw ||| BitVec.twoPow 16 k else sw &&& ~~~(BitVec.twoPow 16 k)

/-- C0 is SW bit 8 (spec R26). -/
def swC0 (sw : Word) : Bool := sw.getLsbD 8

/-- C1 is SW bit 9 (spec R26). -/
def swC1 (sw : Word) : Bool := sw.getLsbD 9

/-- C2 is SW bit 10 (spec R26). -/
def swC2 (sw : Word) : Bool := sw.getLsbD 10

/-- C3 is SW bit 14 (spec R26). -/
def swC3 (sw : Word) : Bool := sw.getLsbD 14

/-- `setCC` of a subset that leaves C1 out (spec R38). -/
def swSetC320 (sw : Word) (c3 c2 c0 : Bool) : Word :=
  swWithBit (swWithBit (swWithBit sw 14 c3) 10 c2) 8 c0

/-- `setC1` and `clearC1` (spec R38). -/
def swSetC1 (sw : Word) (c1 : Bool) : Word := swWithBit sw 9 c1

/-- `setCC` of C2 alone (spec R38, R299). -/
def swSetC2 (sw : Word) (c2 : Bool) : Word := swWithBit sw 10 c2

/-- `clearExceptions`: SW[7:0] and SW[15] cleared, the rest kept (spec R39). -/
def swClearExceptions (sw : Word) : Word := sw &&& 0x7F00

/-- The relation of two binary64 values (spec R37). -/
inductive Relation where
  | unordered | greater | less | equal
  deriving DecidableEq, Repr

/-- The condition codes of a compare; C1 is unchanged (spec R37). -/
def swCompare (sw : Word) : Relation → Word
  | .unordered => swSetC320 sw true true true
  | .greater => swSetC320 sw false false false
  | .less => swSetC320 sw false false true
  | .equal => swSetC320 sw true false false

/-- The 2-bit encoding of a tag (spec R23). -/
def Tag.code : Tag → BitVec 2
  | .valid => 0
  | .zero => 1
  | .special => 2
  | .empty => 3

/-- The tag of a 2-bit code (spec R23). -/
def Tag.ofCode (c : BitVec 2) : Tag :=
  match c.toNat with
  | 0 => .valid
  | 1 => .zero
  | 2 => .special
  | _ => .empty

/-- TW: TW[2p+1:2p] = TAG[p] (spec R29). -/
def tagWord (t : Vector Tag 8) : Word :=
  t[7].code ++ t[6].code ++ t[5].code ++ t[4].code ++ t[3].code ++ t[2].code ++ t[1].code ++ t[0].code

/-- The tags a loaded TW gives, raw (spec R29). -/
def tagsOfWord (w : Word) : Vector Tag 8 :=
  Vector.ofFn fun p => Tag.ofCode (w.extractLsb' (2 * p.val) 2)

end Sys2Proof.Machine
end

