-- ==== Sys2Proof/Machine/Float.lean ====
section
/-! DEFINITION. Binary64 arithmetic (spec R130 to R138): every operation computes the exact value in units of
2^-1074, the smallest subnormal, and rounds once. A result `none` is a NaN: the caller draws its pattern (spec
R132). -/

namespace Sys2Proof.Machine

/-- One in units of 2^-1074. -/
def F64.one : Nat := 2 ^ 1074

/-- Sign bit (spec R21). -/
def F64.sign (x : Double) : Bool := x.msb

/-- Biased exponent (spec R21). -/
def F64.expo (x : Double) : Nat := (x.extractLsb' 52 11).toNat

/-- Fraction (spec R21). -/
def F64.frac (x : Double) : Nat := (x.extractLsb' 0 52).toNat

/-- `isNaN` (spec R13): exponent 0x7FF, fraction nonzero (spec R132). -/
def F64.isNaN (x : Double) : Bool := F64.expo x == 2047 && F64.frac x != 0

/-- `isInf` (spec R13). -/
def F64.isInf (x : Double) : Bool := F64.expo x == 2047 && F64.frac x == 0

/-- `isZero` (spec R13): either sign. -/
def F64.isZero (x : Double) : Bool := F64.expo x == 0 && F64.frac x == 0

/-- A subnormal: exponent 0, fraction nonzero (spec R149). -/
def F64.isSubnormal (x : Double) : Bool := F64.expo x == 0 && F64.frac x != 0

/-- The magnitude in units of 2^-1074. Of an infinity it is 2^1024, above every finite magnitude. -/
def F64.units (x : Double) : Nat :=
  if F64.expo x = 0 then F64.frac x else (2 ^ 52 + F64.frac x) * 2 ^ (F64.expo x - 1)

/-- The signed value in units of 2^-1074. -/
def F64.value (x : Double) : Int := if F64.sign x then -(F64.units x : Int) else F64.units x

/-- A pattern from its sign and its low 63 bits. -/
def F64.pack (s : Bool) (mag : Nat) : Double := BitVec.ofBool s ++ BitVec.ofNat 63 mag

/-- The low 63 bits of an infinity. -/
def F64.infMag : Nat := 2047 * 2 ^ 52

/-- Signed infinity. -/
def F64.inf (s : Bool) : Double := F64.pack s F64.infMag

/-- Signed zero. -/
def F64.zero (s : Bool) : Double := F64.pack s 0

/-- 1.0 -/
def F64.oneDouble : Double := 0x3FF0000000000000

/-- n / d to the nearest integer, ties to the even integer. -/
def rne (n d : Nat) : Nat :=
  if 2 * (n % d) > d ∨ (2 * (n % d) = d ∧ n / d % 2 = 1) then n / d + 1 else n / d

/-- The exponent above the subnormal range of the result of rounding n / d: the rounding unit is 2^k. -/
def roundExp (fracBits n d : Nat) : Nat := Nat.log2 (n / d) - fracBits

/-- The magnitude n / d, in units of the smallest subnormal, rounded to a format of `fracBits` fraction bits by
roundTiesToEven: the low bits of the pattern, an infinity when too large (spec R13 `rnd64`, R142). -/
def roundMag (fracBits infMag n d : Nat) : Nat :=
  min (roundExp fracBits n d * 2 ^ fracBits + rne n (d * 2 ^ roundExp fracBits n d)) infMag

/-- `rnd64` of the exact value (-1)^s * (n / d) * 2^-1074 (spec R13, R130). -/
def F64.round (s : Bool) (n d : Nat) : Double := F64.pack s (roundMag 52 F64.infMag n d)

/-- `rnd64` of an integer; zero gives +0.0 (spec R150). -/
def F64.ofInt (k : Int) : Double := F64.round (decide (k < 0)) (k.natAbs * F64.one) 1

/-- `neg` (spec R133): bit 63 inverted. -/
def F64.neg (x : Double) : Double := x ^^^ 0x8000000000000000

/-- `abs` (spec R133): bit 63 cleared. -/
def F64.abs (x : Double) : Double := x &&& 0x7FFFFFFFFFFFFFFF

/-- The IEEE-754 comparison (spec R37): +0 = -0, infinities ordered. -/
def F64.relation (a b : Double) : Relation :=
  if F64.isNaN a || F64.isNaN b then .unordered
  else if F64.value a > F64.value b then .greater
  else if F64.value a < F64.value b then .less
  else .equal

/-- `add` (spec R130). An exact zero sum is +0, but of two negative zeros -0. -/
def F64.add (a b : Double) : Option Double :=
  if F64.isNaN a || F64.isNaN b then none
  else if F64.isInf a then (if F64.isInf b && F64.sign a != F64.sign b then none else some a)
  else if F64.isInf b then some b
  else if F64.value a + F64.value b = 0 then some (F64.zero (F64.sign a && F64.sign b))
  else some (F64.round (decide (F64.value a + F64.value b < 0)) (F64.value a + F64.value b).natAbs 1)

/-- `sub` (spec R130): the sum with the second operand's sign inverted. -/
def F64.sub (a b : Double) : Option Double := F64.add a (F64.neg b)

/-- `mul` (spec R130, R238). -/
def F64.mul (a b : Double) : Option Double :=
  let s := F64.sign a != F64.sign b
  if F64.isNaN a || F64.isNaN b then none
  else if F64.isInf a || F64.isInf b then (if F64.isZero a || F64.isZero b then none else some (F64.inf s))
  else some (F64.round s (F64.units a * F64.units b) F64.one)

/-- `div` (spec R130, R238). -/
def F64.div (a b : Double) : Option Double :=
  let s := F64.sign a != F64.sign b
  if F64.isNaN a || F64.isNaN b then none
  else if F64.isInf a then (if F64.isInf b then none else some (F64.inf s))
  else if F64.isInf b then some (F64.zero s)
  else if F64.isZero b then (if F64.isZero a then none else some (F64.inf s))
  else some (F64.round s (F64.units a * F64.one) (F64.units b))

/-- The largest r below 2^bits + r0 with r * r ≤ x, found bit by bit. -/
def isqrtFrom (x : Nat) : Nat → Nat → Nat
  | 0, r => r
  | k + 1, r => isqrtFrom x k (if (r + 2 ^ k) * (r + 2 ^ k) ≤ x then r + 2 ^ k else r)

/-- How far y is shifted down, in bits of its square root, before the root is taken. -/
def sqrtShift (y : Nat) : Nat := (Nat.log2 y - 110) / 2

/-- The root of y, truncated to 56 or so bits. -/
def sqrtRoot (y : Nat) : Nat := isqrtFrom (y / 4 ^ sqrtShift y) 57 0

/-- Twice the truncated root, plus one when something was truncated: it rounds as the exact root does. -/
def sqrtSticky (y : Nat) : Nat :=
  2 * sqrtRoot y + (if sqrtRoot y * sqrtRoot y * 4 ^ sqrtShift y = y then 0 else 1)

/-- `sqrt` (spec R130, R301), correctly rounded; sqrt(-0) = -0. -/
def F64.sqrt (x : Double) : Option Double :=
  if F64.isNaN x then none
  else if F64.isZero x then some x
  else if F64.sign x then none
  else if F64.isInf x then some x
  else some (F64.round false
    (sqrtSticky (F64.units x * F64.one) * 2 ^ sqrtShift (F64.units x * F64.one)) 2)

/-- A finite x rounded to the nearest integer, ties to even (spec R135). -/
def F64.toInt (x : Double) : Int :=
  if F64.sign x then -(rne (F64.units x) F64.one : Int) else rne (F64.units x) F64.one

/-- `rint` (spec R135): the sign of x when the result is zero. -/
def F64.rint (x : Double) : Option Double :=
  if F64.isNaN x then none
  else if F64.isInf x then some x
  else some (F64.round (F64.sign x) (rne (F64.units x) F64.one * F64.one) 1)

/-- The exact remainder in units of 2^-1074, for |x| = x, |y| = y: x - y * n, n the integer nearest x / y, ties
to even (spec R136). -/
def remUnits (x y : Nat) : Int := (x : Int) - (y : Int) * (rne x y : Int)

/-- `rem` (spec R136): the IEEE-754 remainder; a zero result takes the sign of x. -/
def F64.rem (x y : Double) : Option Double :=
  if F64.isNaN x || F64.isNaN y || F64.isInf x || F64.isZero y then none
  else if F64.isInf y then some x
  else if remUnits (F64.units x) (F64.units y) = 0 then some (F64.zero (F64.sign x))
  else some (F64.round (F64.sign x != decide (remUnits (F64.units x) (F64.units y) < 0))
    (remUnits (F64.units x) (F64.units y)).natAbs 1)

/-- |trunc y| cut at 4096: beyond 2^±4096 every finite nonzero x has left the binary64 range either way, so
the cut changes no result of `scaleReference`. -/
def scaleCount (y : Double) : Nat := min (F64.units y / F64.one) 4096

/-- The reference value of `scaleFn` (spec R137): x * 2^trunc(y), one rounding. -/
def F64.scaleReference (x y : Double) : Option Double :=
  if F64.isNaN x || F64.isNaN y then none
  else if F64.isInf y then
    (if F64.sign y then (if F64.isInf x then none else some (F64.zero (F64.sign x)))
     else (if F64.isZero x then none else some (F64.inf (F64.sign x))))
  else if F64.isZero x || F64.isInf x then some x
  else if F64.sign y then some (F64.round (F64.sign x) (F64.units x) (2 ^ scaleCount y))
  else some (F64.round (F64.sign x) (F64.units x * 2 ^ scaleCount y) 1)

/-- The value a function parameter gives, a NaN being a draw (spec R132). -/
def ofParameter (x : Double) : Option Double := if F64.isNaN x then none else some x

/-- `scaleFn` (spec R137): the parameter of spec R9. -/
def F64.scale (choice : Choice) (x y : Double) : Option Double :=
  match choice with
  | .reference => F64.scaleReference x y
  | .unknown => ofParameter (Config.scaleFn x y)

/-- `logb` of a finite nonzero x (spec R138): floor(log2 |x|). -/
def F64.logb (x : Double) : Double := F64.ofInt ((Nat.log2 (F64.units x) : Int) - 1074)

/-- `signif` of a finite nonzero x (spec R138): x / 2^logb(x), exact. -/
def F64.signif (x : Double) : Double :=
  F64.round (F64.sign x) (F64.units x * F64.one) (2 ^ Nat.log2 (F64.units x))

/-- `tagOf` (spec R24). -/
def tagOf (v : Double) : Tag :=
  if F64.isZero v then .zero else if F64.isNaN v || F64.isInf v then .special else .valid

/-- The condition codes of FXAM (spec R293) in the order C3, C2, C0. -/
def fxamCodes (subnormal : SubnormalClass) (tag : Tag) (v : Double) : Bool × Bool × Bool :=
  if tag = .empty then (true, false, true)
  else if F64.isNaN v then (false, false, true)
  else if F64.isInf v then (false, true, true)
  else if F64.isZero v then (true, false, false)
  else if F64.isSubnormal v then
    (match subnormal with
     | .normal => (false, true, false)
     | .denormal => (true, true, false))
  else (false, true, false)

/-- SW after FXAM: C1 is the sign bit in every case (spec R293). -/
def swFxam (sw : Word) (subnormal : SubnormalClass) (tag : Tag) (v : Double) : Word :=
  swSetC1 (swSetC320 sw (fxamCodes subnormal tag v).1 (fxamCodes subnormal tag v).2.1
    (fxamCodes subnormal tag v).2.2) (F64.sign v)

end Sys2Proof.Machine
end

