-- ==== Sys2Proof/Machine/Memory.lean ====
section
/-! DEFINITION. The memory list and its canonical form; the flat address of a (segment, offset) pair. -/

namespace Sys2Proof.Machine

/-- What an address nothing has written reads as (assumption log 5). -/
def Memory.unlisted : Byte := 0

/-- How many physical addresses there are (spec R60). -/
def Memory.size : Nat := 1048576

/-- The byte at an address: the last one written to it (spec R69). -/
def Memory.read (m : Memory) (a : Nat) : Byte :=
  match m with
  | [] => Memory.unlisted
  | (k, b) :: rest => if k = a then b else Memory.read rest a

/-- No byte listed at an address any more. -/
def Memory.erase (m : Memory) (a : Nat) : Memory :=
  match m with
  | [] => []
  | (k, c) :: rest => if k = a then Memory.erase rest a else (k, c) :: Memory.erase rest a

/-- A byte listed at an address, in its place among the rising addresses. -/
def Memory.insert (m : Memory) (a : Nat) (b : Byte) : Memory :=
  match m with
  | [] => [(a, b)]
  | (k, c) :: rest =>
    if a < k then (a, b) :: (k, c) :: rest
    else if a = k then (a, b) :: rest
    else (k, c) :: Memory.insert rest a b

/-- Writes one byte, keeping the canonical form: a byte equal to `unlisted` is not listed. -/
def Memory.write (m : Memory) (a : Nat) (b : Byte) : Memory :=
  if b = Memory.unlisted then m.erase a else m.insert a b

/-- The canonical form above an address: addresses at least `lo`, strictly rising, below `Memory.size`, and no
byte equal to `unlisted`. -/
def Memory.wfFrom (lo : Nat) : Memory → Bool
  | [] => true
  | (k, b) :: rest => decide (lo ≤ k) && decide (k < Memory.size) && (b != Memory.unlisted) && wfFrom (k + 1) rest

/-- The canonical form of memory: equal memories are equal lists. -/
def Memory.wf (m : Memory) : Bool := Memory.wfFrom 0 m

/-- The physical address of (segment, offset), `(segment * 16 + offset) mod 2^20`: the collaborator's function
(spec R60, assumption log 6). -/
def linear (seg off : Word) : Nat := (seg.toNat * 16 + off.toNat) % Memory.size

end Sys2Proof.Machine
end

