-- ==== Sys2Proof/Machine/Ops.lean ====
section
/-! DEFINITION. The named operations over memory, the register stack, the free values and the return frame;
trap entry and trap return. -/

namespace Sys2Proof.Machine

/-! ### Memory through (segment, offset) pairs -/

/-- `MemRead8` (spec R11). -/
def State.read8 (s : State) (seg off : Word) : Byte := s.mem.read (linear seg off)

/-- `MemWrite8` (spec R11). -/
def State.write8 (s : State) (seg off : Word) (b : Byte) : State :=
  { s with mem := s.mem.write (linear seg off) b }

/-- `MemRead(seg, off, n)`: little-endian, byte k at u16(off + k) (spec R64, R65). -/
def State.readLE (s : State) (seg off : Word) : Nat → Nat
  | 0 => 0
  | n + 1 => (s.read8 seg off).toNat + 256 * s.readLE seg (off + 1) n

/-- `MemWrite(seg, off, n, v)`: little-endian, in ascending order, byte k at u16(off + k) (spec R64, R65). -/
def State.writeLE (s : State) (seg off : Word) : Nat → Nat → State
  | 0, _ => s
  | n + 1, v => (s.write8 seg off (BitVec.ofNat 8 v)).writeLE seg (off + 1) n (v / 256)

/-- A word of memory (spec R60). -/
def State.read16 (s : State) (seg off : Word) : Word := BitVec.ofNat 16 (s.readLE seg off 2)

/-- A word to memory (spec R60). -/
def State.write16 (s : State) (seg off : Word) (w : Word) : State := s.writeLE seg off 2 w.toNat

/-! ### The register stack (spec R30 to R39) -/

/-- TOP (spec R25). -/
def Block.top (b : Block) : BitVec 3 := swTop b.sw

/-- A write of TOP writes SW[13:11] (spec R25). -/
def Block.withTop (b : Block) (t : BitVec 3) : Block := { b with sw := swWithTop b.sw t }

/-- R[p]. -/
def Block.reg (b : Block) (p : BitVec 3) : Double := b.regs[p.toNat]'p.isLt

/-- TAG[p]. -/
def Block.tag (b : Block) (p : BitVec 3) : Tag := b.tags[p.toNat]'p.isLt

/-- R[p] <- v. -/
def Block.setReg (b : Block) (p : BitVec 3) (v : Double) : Block :=
  { b with regs := b.regs.set p.toNat v p.isLt }

/-- TAG[p] <- t. -/
def Block.setTag (b : Block) (p : BitVec 3) (t : Tag) : Block :=
  { b with tags := b.tags.set p.toNat t p.isLt }

/-- `phys(i)` (spec R30): (TOP + i) mod 8. -/
def Block.phys (b : Block) (i : BitVec 3) : BitVec 3 := b.top + i

/-- `getST(i)` (spec R31). -/
def Block.getST (b : Block) (i : BitVec 3) : Double := b.reg (b.phys i)

/-- `setST(i, v)` (spec R32). -/
def Block.setST (b : Block) (i : BitVec 3) (v : Double) : Block :=
  (b.setReg (b.phys i) v).setTag (b.phys i) (tagOf v)

/-- `incSTP()` (spec R36). -/
def Block.incSTP (b : Block) : Block := b.withTop (b.top + 1)

/-- `decSTP()` (spec R36). -/
def Block.decSTP (b : Block) : Block := b.withTop (b.top - 1)

/-- `push(v)` (spec R33): no stack check (spec R40). -/
def Block.push (b : Block) (v : Double) : Block := b.decSTP.setST 0 v

/-- `free(i)` (spec R35). -/
def Block.free (b : Block) (i : BitVec 3) : Block := b.setTag (b.phys i) .empty

/-- `pop()` (spec R34), whose value is `getST 0` before it; no stack check (spec R40). -/
def Block.pop (b : Block) : Block := (b.free 0).incSTP

/-- `compare(a, b)` (spec R37). -/
def Block.compare (b : Block) (x y : Double) : Block := { b with sw := swCompare b.sw (F64.relation x y) }

/-- `clearExceptions()` (spec R39). -/
def Block.clearExceptions (b : Block) : Block := { b with sw := swClearExceptions b.sw }

/-- A change of the block state alone. -/
def State.onBlock (s : State) (f : Block → Block) : State := { s with block := f s.block }

/-! ### Free values -/

/-- A NaN pattern from any 64 bits: a NaN is kept, anything else has its exponent and the quiet bit set, so
that every NaN pattern is among the values (spec R132, assumption log 11). -/
def toNaN64 (v : BitVec 64) : Double := if F64.isNaN v then v else v ||| 0x7FF8000000000000

/-- The same for binary32 (spec R142). -/
def toNaN32 (v : BitVec 64) : Single :=
  if v.extractLsb' 23 8 = 255 ∧ v.extractLsb' 0 23 ≠ 0 then v.extractLsb' 0 32
  else v.extractLsb' 0 32 ||| 0x7FC00000

/-- The next free value. -/
def State.freeValue (s : State) : BitVec 64 := Config.freeValue s.draws

/-- Moves past `n` free values. -/
def State.drawn (s : State) (n : Nat) : State := { s with draws := s.draws + n }

/-- The pattern of a result: a NaN is `nanDraw` (spec R132). -/
def State.settle (s : State) (r : Option Double) : Double := r.getD (toNaN64 s.freeValue)

/-- The state after a result is settled: a NaN has taken a draw. -/
def State.settled (s : State) (r : Option Double) : State := if r.isSome then s else s.drawn 1

/-- `setST(i, r)` of a result. -/
def State.setResult (s : State) (i : BitVec 3) (r : Option Double) : State :=
  (s.settled r).onBlock fun b => b.setST i (s.settle r)

/-- `push(r)` of a result. -/
def State.pushResult (s : State) (r : Option Double) : State :=
  (s.settled r).onBlock fun b => b.push (s.settle r)

/-! ### The return frame (spec R172, R180) -/

/-- `RetIP()` (spec R172). -/
def State.retIP (s : State) : Word := s.read16 s.guest.ss s.guest.sp

/-- `RetCS()` (spec R172). -/
def State.retCS (s : State) : Word := s.read16 s.guest.ss (s.guest.sp + 2)

/-- `RetIP() <- v` (spec R172). -/
def State.setRetIP (s : State) (v : Word) : State := s.write16 s.guest.ss s.guest.sp v

/-- `Patch(k)` (spec R180): RetIP is read again, after the handler, and k added modulo 2^16. -/
def State.patch (s : State) (k : Nat) : State := s.setRetIP (s.retIP + BitVec.ofNat 16 k)

/-- The end of every transaction: the patch after the handler (spec R174, R181, R184). -/
def complete (k : Nat) (s : State) : Answer := .next (s.patch k)

/-! ### Trap entry and trap return (spec R170, R173, R355, R356) -/

/-- IF is FLAGS bit 9 and TF bit 8 (the 8086 family's; assumption log 2). -/
def flagsCleared (f : Word) : Word := f &&& 0xFCFF

/-- One word pushed on the guest stack. -/
def State.pushWord (s : State) (w : Word) : State :=
  { s with guest := { s.guest with sp := s.guest.sp - 2 } }.write16 s.guest.ss (s.guest.sp - 2) w

/-- Trap entry: FLAGS, CS and the offset past `CD vv` are pushed in that order, then IF and TF cleared (spec
R170, R355); a transaction is in progress. The other registers hold their values at the trap. -/
def State.trapEntry (s : State) : State :=
  let t := ((s.pushWord s.guest.flags).pushWord s.guest.cs).pushWord (s.guest.ip + 2)
  { t with guest := { t.guest with flags := flagsCleared s.guest.flags }, inTransaction := true }

/-- Trap return: the guest resumes at RetCS:RetIP with FLAGS restored, and the override is cleared (spec R173,
R356). -/
def State.trapReturn (s : State) : State :=
  { s with
    guest := { s.guest with
      ip := s.retIP
      cs := s.retCS
      flags := s.read16 s.guest.ss (s.guest.sp + 4)
      sp := s.guest.sp + 6
      override := none }
    inTransaction := false }

end Sys2Proof.Machine
end

