-- ==== Sys2Proof/Machine/Operands.lean ====
section
/-! DEFINITION. Every operand form: the effective address (spec R97 to R102) and the Binary Codec (spec R141 to
R152). -/

namespace Sys2Proof.Machine

/-! ### Effective address -/

/-- `Reg(r)` of a segment register (spec R11). -/
def Guest.seg (g : Guest) : SegReg → Word
  | .es => g.es
  | .cs => g.cs
  | .ss => g.ss
  | .ds => g.ds

/-- The base/index pairing table (spec R99), the sum modulo 2^16 (spec R102). -/
def Guest.base (g : Guest) (rm : BitVec 3) : Word :=
  match rm.toNat with
  | 0 => g.bx + g.si
  | 1 => g.bx + g.di
  | 2 => g.bp + g.si
  | 3 => g.bp + g.di
  | 4 => g.si
  | 5 => g.di
  | 6 => g.bp
  | _ => g.bx

/-- The 16-bit displacement (spec R100): zero, sign-extended, or the word. -/
def dispValue : Disp → Word
  | .none => 0
  | .byte d => d.signExtend 16
  | .word d => d

/-- The default segment (spec R101): SS for rm 2, 3, 6 and the direct case, else DS. -/
def defaultSeg : MemOperand → SegReg
  | .direct _ => .ss
  | .based rm _ => if rm = 2 ∨ rm = 3 ∨ rm = 6 then .ss else .ds

/-- Segment resolution: an active override always wins (spec R101). -/
def Guest.segFor (g : Guest) (m : MemOperand) : SegReg := g.override.getD (defaultSeg m)

/-- The offset of the effective address (spec R98, R102). -/
def Guest.offset (g : Guest) : MemOperand → Word
  | .direct disp => disp
  | .based rm disp => g.base rm + dispValue disp

/-- The segment value of `D.ea` (spec R101). -/
def State.eaSeg (s : State) (m : MemOperand) : Word := s.guest.seg (s.guest.segFor m)

/-- The offset of `D.ea` (spec R102). -/
def State.eaOff (s : State) (m : MemOperand) : Word := s.guest.offset m

/-- `MemRead(D.ea, n)`. -/
def State.load (s : State) (m : MemOperand) (n : Nat) : Nat := s.readLE (s.eaSeg m) (s.eaOff m) n

/-- `MemWrite(D.ea, n, v)`. -/
def State.store (s : State) (m : MemOperand) (n v : Nat) : State := s.writeLE (s.eaSeg m) (s.eaOff m) n v

/-! ### Codec reads: `none` is a NaN, which the caller draws -/

/-- binary32 to binary64, exact (spec R141). -/
def singleToDouble (b : Single) : Option Double :=
  let e := (b.extractLsb' 23 8).toNat
  let f := (b.extractLsb' 0 23).toNat
  if e = 255 then (if f = 0 then some (F64.inf b.msb) else none)
  else if e = 0 then some (F64.round b.msb (f * 2 ^ 925) 1)
  else some (F64.round b.msb ((2 ^ 23 + f) * 2 ^ (e - 1) * 2 ^ 925) 1)

/-- A binary64 pattern as read: bit for bit, but a NaN is drawn (spec R143). -/
def doubleRead (b : Double) : Option Double := if F64.isNaN b then none else some b

/-- The value of an 80-bit operand by the formula, one rounding (spec R146 case 4). -/
def extendedReference (s : Bool) (e : BitVec 15) (m : BitVec 64) : Double :=
  if 15372 ≤ e.toNat then F64.round s (m.toNat * 2 ^ (e.toNat - 15372)) 1
  else F64.round s m.toNat (2 ^ (15372 - e.toNat))

/-- The edge band (spec R147): (a) M nonzero and E < 15372 or a magnitude below 2^-1022, (b) M zero and
E at least 17470. -/
def extendedEdge (e : BitVec 15) (m : BitVec 64) : Bool :=
  if m = 0 then decide (17470 ≤ e.toNat)
  else decide (e.toNat < 15372) || decide (m.toNat * 2 ^ (e.toNat - 15372) < 2 ^ 52)

/-- `readFloat80` of a pattern (spec R145, R146, R147; spec/90_conflicts.md C3). -/
def extendedToDouble (edge : Choice) (b : Extended) : Option Double :=
  let m := b.extractLsb' 0 64
  let e := b.extractLsb' 64 15
  let s := b.msb
  if e = 0 ∧ m = 0 then some (F64.zero s)
  else if e = 0x7FFF then (if m.extractLsb' 0 63 = 0 then some (F64.inf s) else none)
  else if extendedEdge e m then
    (match edge with
     | .reference => some (extendedReference s e m)
     | .unknown => ofParameter (Config.f80EdgeDecode s e m))
  else some (extendedReference s e m)

/-- `readFloat32` (spec R141). -/
def State.readFloat32 (s : State) (m : MemOperand) : Option Double :=
  singleToDouble (BitVec.ofNat 32 (s.load m 4))

/-- `readFloat64` (spec R143). -/
def State.readFloat64 (s : State) (m : MemOperand) : Option Double :=
  doubleRead (BitVec.ofNat 64 (s.load m 8))

/-- `readFloat80` (spec R146). -/
def State.readFloat80 (s : State) (m : MemOperand) : Option Double :=
  extendedToDouble s.params.f80EdgeDecode (BitVec.ofNat 80 (s.load m 10))

/-- `readInt16` (spec R150). -/
def State.readInt16 (s : State) (m : MemOperand) : Option Double :=
  some (F64.ofInt (BitVec.ofNat 16 (s.load m 2)).toInt)

/-- `readInt32` (spec R150). -/
def State.readInt32 (s : State) (m : MemOperand) : Option Double :=
  some (F64.ofInt (BitVec.ofNat 32 (s.load m 4)).toInt)

/-- `readInt64` (spec R150). -/
def State.readInt64 (s : State) (m : MemOperand) : Option Double :=
  some (F64.ofInt (BitVec.ofNat 64 (s.load m 8)).toInt)

/-! ### Codec writes -/

/-- binary64 to binary32 (spec R142) of a value that is no NaN: roundTiesToEven, with binary32 subnormals. -/
def doubleToSingle (x : Double) : Single :=
  BitVec.ofBool (F64.sign x) ++
    BitVec.ofNat 31 (if F64.isInf x then 255 * 2 ^ 23
      else roundMag 23 (255 * 2 ^ 23) (F64.units x) (2 ^ 925))

/-- An 80-bit pattern from its sign, exponent and significand (spec R145). -/
def packExtended (s : Bool) (e m : Nat) : Extended :=
  BitVec.ofBool s ++ BitVec.ofNat 15 e ++ BitVec.ofNat 64 m

/-- A NaN in the 80-bit format from any 80 bits (assumption log 11). -/
def toNaN80 (v : Extended) : Extended :=
  if v.extractLsb' 64 15 = 0x7FFF ∧ v.extractLsb' 0 63 ≠ 0 then v else v ||| 0x7FFFC000000000000000

/-- `writeFloat80` (spec R148, R149). -/
def doubleToExtended (p : Params) (x : Double) : Extended :=
  let s := F64.sign x
  let f := F64.frac x
  if F64.isNaN x then
    (match p.nan80 with
     | .reference => packExtended s 0x7FFF (2 ^ 63 + f * 2 ^ 11)
     | .unknown => toNaN80 (Config.nan80 x))
  else if F64.isInf x then packExtended s 0x7FFF (2 ^ 63)
  else if F64.isZero x then packExtended s 0 0
  else if F64.isSubnormal x then
    (match p.f80SubnormalEnc with
     | .normalized => packExtended s (Nat.log2 f + 15309) (f * 2 ^ (63 - Nat.log2 f))
     | .literal => packExtended s 15360 (f * 2 ^ 11))
  else packExtended s (F64.expo x + 15360) (2 ^ 63 + f * 2 ^ 11)

/-- The bits an N-bit integer store writes (spec R151): ties to even, the low N bits, `intIndefinite_N` for NaN,
infinity and beyond the 64-bit range. -/
def doubleToInt (n : Nat) (indefinite : BitVec n) (x : Double) : BitVec n :=
  if F64.isNaN x || F64.isInf x then indefinite
  else if -(2 ^ 63 : Int) ≤ F64.toInt x ∧ F64.toInt x < 2 ^ 63 then BitVec.ofInt n (F64.toInt x)
  else indefinite

/-- `writeFloat32` (spec R142): a NaN writes some binary32 NaN, a draw. -/
def State.writeFloat32 (s : State) (m : MemOperand) (x : Double) : State :=
  if F64.isNaN x then (s.store m 4 (toNaN32 s.freeValue).toNat).drawn 1
  else s.store m 4 (doubleToSingle x).toNat

/-- `writeFloat64` (spec R144): a NaN writes some NaN pattern, a draw. -/
def State.writeFloat64 (s : State) (m : MemOperand) (x : Double) : State :=
  if F64.isNaN x then (s.store m 8 (toNaN64 s.freeValue).toNat).drawn 1
  else s.store m 8 x.toNat

/-- `writeFloat80` (spec R148, R149). -/
def State.writeFloat80 (s : State) (m : MemOperand) (x : Double) : State :=
  s.store m 10 (doubleToExtended s.params x).toNat

/-- `writeInt16` (spec R151). -/
def State.writeInt16 (s : State) (m : MemOperand) (x : Double) : State :=
  s.store m 2 (doubleToInt 16 s.params.intIndefinite16 x).toNat

/-- `writeInt32` (spec R151). -/
def State.writeInt32 (s : State) (m : MemOperand) (x : Double) : State :=
  s.store m 4 (doubleToInt 32 s.params.intIndefinite32 x).toNat

/-- `writeInt64` (spec R151). -/
def State.writeInt64 (s : State) (m : MemOperand) (x : Double) : State :=
  s.store m 8 (doubleToInt 64 s.params.intIndefinite64 x).toNat

end Sys2Proof.Machine
end

