-- ==== Sys2Proof/Machine/ArithMem.lean ====
section
/-! DEFINITION. Memory-operand arithmetic of vectors D8, DA, DC and DE (spec R190 to R222). -/

namespace Sys2Proof.Machine

/-- A memory-operand operation (spec R190): the operand `r`, read before any state change, then
`setST(0, f(getST(0), m))`; a NaN read is drawn before the result is. -/
def State.arithMem (s : State) (r : Option Double) (f : Double → Double → Option Double) : State :=
  (s.settled r).setResult 0 (f ((s.settled r).block.getST 0) (s.settle r))

/-- `compare(getST(0), m)` (spec R190). -/
def State.compareMem (s : State) (r : Option Double) : State :=
  (s.settled r).onBlock fun b => b.compare (b.getST 0) (s.settle r)

/-- `compare(getST(0), m); pop()` (spec R190). -/
def State.compareMemPop (s : State) (r : Option Double) : State := (s.compareMem r).onBlock Block.pop

/-- FADD m32real: ST(0) <- ST(0) + m (spec R191). -/
def ruleFaddM32real (m : MemOperand) (s : State) : State :=
  s.arithMem (s.readFloat32 m) F64.add

/-- FADD m32real: the transaction (spec R191, R174). -/
def execFaddM32real (m : MemOperand) (s : State) : Answer := complete m.skip (ruleFaddM32real m s)

/-- FMUL m32real: ST(0) <- ST(0) * m (spec R192). -/
def ruleFmulM32real (m : MemOperand) (s : State) : State :=
  s.arithMem (s.readFloat32 m) F64.mul

/-- FMUL m32real: the transaction (spec R192, R174). -/
def execFmulM32real (m : MemOperand) (s : State) : Answer := complete m.skip (ruleFmulM32real m s)

/-- FCOM m32real: compare ST(0) with m (spec R193). -/
def ruleFcomM32real (m : MemOperand) (s : State) : State :=
  s.compareMem (s.readFloat32 m)

/-- FCOM m32real: the transaction (spec R193, R174). -/
def execFcomM32real (m : MemOperand) (s : State) : Answer := complete m.skip (ruleFcomM32real m s)

/-- FCOMP m32real: compare ST(0) with m, then pop (spec R194). -/
def ruleFcompM32real (m : MemOperand) (s : State) : State :=
  s.compareMemPop (s.readFloat32 m)

/-- FCOMP m32real: the transaction (spec R194, R174). -/
def execFcompM32real (m : MemOperand) (s : State) : Answer := complete m.skip (ruleFcompM32real m s)

/-- FSUB m32real: ST(0) <- ST(0) - m (spec R195). -/
def ruleFsubM32real (m : MemOperand) (s : State) : State :=
  s.arithMem (s.readFloat32 m) F64.sub

/-- FSUB m32real: the transaction (spec R195, R174). -/
def execFsubM32real (m : MemOperand) (s : State) : Answer := complete m.skip (ruleFsubM32real m s)

/-- FSUBR m32real: ST(0) <- m - ST(0) (spec R196). -/
def ruleFsubrM32real (m : MemOperand) (s : State) : State :=
  s.arithMem (s.readFloat32 m) fun st v => F64.sub v st

/-- FSUBR m32real: the transaction (spec R196, R174). -/
def execFsubrM32real (m : MemOperand) (s : State) : Answer := complete m.skip (ruleFsubrM32real m s)

/-- FDIV m32real: ST(0) <- ST(0) / m (spec R197). -/
def ruleFdivM32real (m : MemOperand) (s : State) : State :=
  s.arithMem (s.readFloat32 m) F64.div

/-- FDIV m32real: the transaction (spec R197, R174). -/
def execFdivM32real (m : MemOperand) (s : State) : Answer := complete m.skip (ruleFdivM32real m s)

/-- FDIVR m32real: ST(0) <- m / ST(0) (spec R198). -/
def ruleFdivrM32real (m : MemOperand) (s : State) : State :=
  s.arithMem (s.readFloat32 m) fun st v => F64.div v st

/-- FDIVR m32real: the transaction (spec R198, R174). -/
def execFdivrM32real (m : MemOperand) (s : State) : Answer := complete m.skip (ruleFdivrM32real m s)

/-- FIADD m32int: ST(0) <- ST(0) + m (spec R199). -/
def ruleFiaddM32int (m : MemOperand) (s : State) : State :=
  s.arithMem (s.readInt32 m) F64.add

/-- FIADD m32int: the transaction (spec R199, R174). -/
def execFiaddM32int (m : MemOperand) (s : State) : Answer := complete m.skip (ruleFiaddM32int m s)

/-- FIMUL m32int: ST(0) <- ST(0) * m (spec R200). -/
def ruleFimulM32int (m : MemOperand) (s : State) : State :=
  s.arithMem (s.readInt32 m) F64.mul

/-- FIMUL m32int: the transaction (spec R200, R174). -/
def execFimulM32int (m : MemOperand) (s : State) : Answer := complete m.skip (ruleFimulM32int m s)

/-- FICOM m32int: compare ST(0) with m (spec R201). -/
def ruleFicomM32int (m : MemOperand) (s : State) : State :=
  s.compareMem (s.readInt32 m)

/-- FICOM m32int: the transaction (spec R201, R174). -/
def execFicomM32int (m : MemOperand) (s : State) : Answer := complete m.skip (ruleFicomM32int m s)

/-- FICOMP m32int: compare ST(0) with m, then pop (spec R202). -/
def ruleFicompM32int (m : MemOperand) (s : State) : State :=
  s.compareMemPop (s.readInt32 m)

/-- FICOMP m32int: the transaction (spec R202, R174). -/
def execFicompM32int (m : MemOperand) (s : State) : Answer := complete m.skip (ruleFicompM32int m s)

/-- FISUB m32int: ST(0) <- ST(0) - m (spec R203). -/
def ruleFisubM32int (m : MemOperand) (s : State) : State :=
  s.arithMem (s.readInt32 m) F64.sub

/-- FISUB m32int: the transaction (spec R203, R174). -/
def execFisubM32int (m : MemOperand) (s : State) : Answer := complete m.skip (ruleFisubM32int m s)

/-- FISUBR m32int: ST(0) <- m - ST(0) (spec R204). -/
def ruleFisubrM32int (m : MemOperand) (s : State) : State :=
  s.arithMem (s.readInt32 m) fun st v => F64.sub v st

/-- FISUBR m32int: the transaction (spec R204, R174). -/
def execFisubrM32int (m : MemOperand) (s : State) : Answer := complete m.skip (ruleFisubrM32int m s)

/-- FIDIV m32int: ST(0) <- ST(0) / m (spec R205). -/
def ruleFidivM32int (m : MemOperand) (s : State) : State :=
  s.arithMem (s.readInt32 m) F64.div

/-- FIDIV m32int: the transaction (spec R205, R174). -/
def execFidivM32int (m : MemOperand) (s : State) : Answer := complete m.skip (ruleFidivM32int m s)

/-- FIDIVR m32int: ST(0) <- m / ST(0) (spec R206). -/
def ruleFidivrM32int (m : MemOperand) (s : State) : State :=
  s.arithMem (s.readInt32 m) fun st v => F64.div v st

/-- FIDIVR m32int: the transaction (spec R206, R174). -/
def execFidivrM32int (m : MemOperand) (s : State) : Answer := complete m.skip (ruleFidivrM32int m s)

/-- FADD m64real: ST(0) <- ST(0) + m (spec R207). -/
def ruleFaddM64real (m : MemOperand) (s : State) : State :=
  s.arithMem (s.readFloat64 m) F64.add

/-- FADD m64real: the transaction (spec R207, R174). -/
def execFaddM64real (m : MemOperand) (s : State) : Answer := complete m.skip (ruleFaddM64real m s)

/-- FMUL m64real: ST(0) <- ST(0) * m (spec R208). -/
def ruleFmulM64real (m : MemOperand) (s : State) : State :=
  s.arithMem (s.readFloat64 m) F64.mul

/-- FMUL m64real: the transaction (spec R208, R174). -/
def execFmulM64real (m : MemOperand) (s : State) : Answer := complete m.skip (ruleFmulM64real m s)

/-- FCOM m64real: compare ST(0) with m (spec R209). -/
def ruleFcomM64real (m : MemOperand) (s : State) : State :=
  s.compareMem (s.readFloat64 m)

/-- FCOM m64real: the transaction (spec R209, R174). -/
def execFcomM64real (m : MemOperand) (s : State) : Answer := complete m.skip (ruleFcomM64real m s)

/-- FCOMP m64real: compare ST(0) with m, then pop (spec R210). -/
def ruleFcompM64real (m : MemOperand) (s : State) : State :=
  s.compareMemPop (s.readFloat64 m)

/-- FCOMP m64real: the transaction (spec R210, R174). -/
def execFcompM64real (m : MemOperand) (s : State) : Answer := complete m.skip (ruleFcompM64real m s)

/-- FSUB m64real: ST(0) <- ST(0) - m (spec R211). -/
def ruleFsubM64real (m : MemOperand) (s : State) : State :=
  s.arithMem (s.readFloat64 m) F64.sub

/-- FSUB m64real: the transaction (spec R211, R174). -/
def execFsubM64real (m : MemOperand) (s : State) : Answer := complete m.skip (ruleFsubM64real m s)

/-- FSUBR m64real: ST(0) <- m - ST(0) (spec R212). -/
def ruleFsubrM64real (m : MemOperand) (s : State) : State :=
  s.arithMem (s.readFloat64 m) fun st v => F64.sub v st

/-- FSUBR m64real: the transaction (spec R212, R174). -/
def execFsubrM64real (m : MemOperand) (s : State) : Answer := complete m.skip (ruleFsubrM64real m s)

/-- FDIV m64real: ST(0) <- ST(0) / m (spec R213). -/
def ruleFdivM64real (m : MemOperand) (s : State) : State :=
  s.arithMem (s.readFloat64 m) F64.div

/-- FDIV m64real: the transaction (spec R213, R174). -/
def execFdivM64real (m : MemOperand) (s : State) : Answer := complete m.skip (ruleFdivM64real m s)

/-- FDIVR m64real: ST(0) <- m / ST(0) (spec R214). -/
def ruleFdivrM64real (m : MemOperand) (s : State) : State :=
  s.arithMem (s.readFloat64 m) fun st v => F64.div v st

/-- FDIVR m64real: the transaction (spec R214, R174). -/
def execFdivrM64real (m : MemOperand) (s : State) : Answer := complete m.skip (ruleFdivrM64real m s)

/-- FIADD m16int: ST(0) <- ST(0) + m (spec R215). -/
def ruleFiaddM16int (m : MemOperand) (s : State) : State :=
  s.arithMem (s.readInt16 m) F64.add

/-- FIADD m16int: the transaction (spec R215, R174). -/
def execFiaddM16int (m : MemOperand) (s : State) : Answer := complete m.skip (ruleFiaddM16int m s)

/-- FIMUL m16int: ST(0) <- ST(0) * m (spec R216). -/
def ruleFimulM16int (m : MemOperand) (s : State) : State :=
  s.arithMem (s.readInt16 m) F64.mul

/-- FIMUL m16int: the transaction (spec R216, R174). -/
def execFimulM16int (m : MemOperand) (s : State) : Answer := complete m.skip (ruleFimulM16int m s)

/-- FICOM m16int: compare ST(0) with m (spec R217). -/
def ruleFicomM16int (m : MemOperand) (s : State) : State :=
  s.compareMem (s.readInt16 m)

/-- FICOM m16int: the transaction (spec R217, R174). -/
def execFicomM16int (m : MemOperand) (s : State) : Answer := complete m.skip (ruleFicomM16int m s)

/-- FICOMP m16int: compare ST(0) with m, then pop (spec R218). -/
def ruleFicompM16int (m : MemOperand) (s : State) : State :=
  s.compareMemPop (s.readInt16 m)

/-- FICOMP m16int: the transaction (spec R218, R174). -/
def execFicompM16int (m : MemOperand) (s : State) : Answer := complete m.skip (ruleFicompM16int m s)

/-- FISUB m16int: ST(0) <- ST(0) - m (spec R219). -/
def ruleFisubM16int (m : MemOperand) (s : State) : State :=
  s.arithMem (s.readInt16 m) F64.sub

/-- FISUB m16int: the transaction (spec R219, R174). -/
def execFisubM16int (m : MemOperand) (s : State) : Answer := complete m.skip (ruleFisubM16int m s)

/-- FISUBR m16int: ST(0) <- m - ST(0) (spec R220). -/
def ruleFisubrM16int (m : MemOperand) (s : State) : State :=
  s.arithMem (s.readInt16 m) fun st v => F64.sub v st

/-- FISUBR m16int: the transaction (spec R220, R174). -/
def execFisubrM16int (m : MemOperand) (s : State) : Answer := complete m.skip (ruleFisubrM16int m s)

/-- FIDIV m16int: ST(0) <- ST(0) / m (spec R221). -/
def ruleFidivM16int (m : MemOperand) (s : State) : State :=
  s.arithMem (s.readInt16 m) F64.div

/-- FIDIV m16int: the transaction (spec R221, R174). -/
def execFidivM16int (m : MemOperand) (s : State) : Answer := complete m.skip (ruleFidivM16int m s)

/-- FIDIVR m16int: ST(0) <- m / ST(0) (spec R222). -/
def ruleFidivrM16int (m : MemOperand) (s : State) : State :=
  s.arithMem (s.readInt16 m) fun st v => F64.div v st

/-- FIDIVR m16int: the transaction (spec R222, R174). -/
def execFidivrM16int (m : MemOperand) (s : State) : Answer := complete m.skip (ruleFidivrM16int m s)

end Sys2Proof.Machine
end

