-- ==== Sys2Proof/Machine/ArithReg.lean ====
section
/-! DEFINITION. Register-operand arithmetic of vectors DC and DE (spec R224 to R236). -/

namespace Sys2Proof.Machine

/-- `setST(i, f(getST(i), getST(0)))` (spec R224 to R229). -/
def State.arithReg (s : State) (i : BitVec 3) (f : Double → Double → Option Double) : State :=
  s.setResult i (f (s.block.getST i) (s.block.getST 0))

/-- The same and `pop()` (spec R230 to R235): the write happens before the pop. -/
def State.arithRegPop (s : State) (i : BitVec 3) (f : Double → Double → Option Double) : State :=
  (s.arithReg i f).onBlock Block.pop

/-- FADD ST(i),ST: ST(i) <- ST(i) + ST(0) (spec R224). -/
def ruleFaddStiSt (i : BitVec 3) (s : State) : State :=
  s.arithReg i F64.add

/-- FADD ST(i),ST: the transaction (spec R224, R174). -/
def execFaddStiSt (i : BitVec 3) (s : State) : Answer := complete 1 (ruleFaddStiSt i s)

/-- FMUL ST(i),ST: ST(i) <- ST(i) * ST(0) (spec R225). -/
def ruleFmulStiSt (i : BitVec 3) (s : State) : State :=
  s.arithReg i F64.mul

/-- FMUL ST(i),ST: the transaction (spec R225, R174). -/
def execFmulStiSt (i : BitVec 3) (s : State) : Answer := complete 1 (ruleFmulStiSt i s)

/-- FSUBR ST(i),ST: ST(i) <- ST(0) - ST(i) (spec R226). -/
def ruleFsubrStiSt (i : BitVec 3) (s : State) : State :=
  s.arithReg i fun a b => F64.sub b a

/-- FSUBR ST(i),ST: the transaction (spec R226, R174). -/
def execFsubrStiSt (i : BitVec 3) (s : State) : Answer := complete 1 (ruleFsubrStiSt i s)

/-- FSUB ST(i),ST: ST(i) <- ST(i) - ST(0) (spec R227). -/
def ruleFsubStiSt (i : BitVec 3) (s : State) : State :=
  s.arithReg i F64.sub

/-- FSUB ST(i),ST: the transaction (spec R227, R174). -/
def execFsubStiSt (i : BitVec 3) (s : State) : Answer := complete 1 (ruleFsubStiSt i s)

/-- FDIVR ST(i),ST: ST(i) <- ST(0) / ST(i) (spec R228). -/
def ruleFdivrStiSt (i : BitVec 3) (s : State) : State :=
  s.arithReg i fun a b => F64.div b a

/-- FDIVR ST(i),ST: the transaction (spec R228, R174). -/
def execFdivrStiSt (i : BitVec 3) (s : State) : Answer := complete 1 (ruleFdivrStiSt i s)

/-- FDIV ST(i),ST: ST(i) <- ST(i) / ST(0) (spec R229). -/
def ruleFdivStiSt (i : BitVec 3) (s : State) : State :=
  s.arithReg i F64.div

/-- FDIV ST(i),ST: the transaction (spec R229, R174). -/
def execFdivStiSt (i : BitVec 3) (s : State) : Answer := complete 1 (ruleFdivStiSt i s)

/-- FADDP ST(i),ST: ST(i) <- ST(i) + ST(0), then pop (spec R230). -/
def ruleFaddpStiSt (i : BitVec 3) (s : State) : State :=
  s.arithRegPop i F64.add

/-- FADDP ST(i),ST: the transaction (spec R230, R174). -/
def execFaddpStiSt (i : BitVec 3) (s : State) : Answer := complete 1 (ruleFaddpStiSt i s)

/-- FMULP ST(i),ST: ST(i) <- ST(i) * ST(0), then pop (spec R231). -/
def ruleFmulpStiSt (i : BitVec 3) (s : State) : State :=
  s.arithRegPop i F64.mul

/-- FMULP ST(i),ST: the transaction (spec R231, R174). -/
def execFmulpStiSt (i : BitVec 3) (s : State) : Answer := complete 1 (ruleFmulpStiSt i s)

/-- FSUBRP ST(i),ST: ST(i) <- ST(0) - ST(i), then pop (spec R232). -/
def ruleFsubrpStiSt (i : BitVec 3) (s : State) : State :=
  s.arithRegPop i fun a b => F64.sub b a

/-- FSUBRP ST(i),ST: the transaction (spec R232, R174). -/
def execFsubrpStiSt (i : BitVec 3) (s : State) : Answer := complete 1 (ruleFsubrpStiSt i s)

/-- FSUBP ST(i),ST: ST(i) <- ST(i) - ST(0), then pop (spec R233). -/
def ruleFsubpStiSt (i : BitVec 3) (s : State) : State :=
  s.arithRegPop i F64.sub

/-- FSUBP ST(i),ST: the transaction (spec R233, R174). -/
def execFsubpStiSt (i : BitVec 3) (s : State) : Answer := complete 1 (ruleFsubpStiSt i s)

/-- FDIVRP ST(i),ST: ST(i) <- ST(0) / ST(i), then pop (spec R234). -/
def ruleFdivrpStiSt (i : BitVec 3) (s : State) : State :=
  s.arithRegPop i fun a b => F64.div b a

/-- FDIVRP ST(i),ST: the transaction (spec R234, R174). -/
def execFdivrpStiSt (i : BitVec 3) (s : State) : Answer := complete 1 (ruleFdivrpStiSt i s)

/-- FDIVP ST(i),ST: ST(i) <- ST(i) / ST(0), then pop (spec R235). -/
def ruleFdivpStiSt (i : BitVec 3) (s : State) : State :=
  s.arithRegPop i F64.div

/-- FDIVP ST(i),ST: the transaction (spec R235, R174). -/
def execFdivpStiSt (i : BitVec 3) (s : State) : Answer := complete 1 (ruleFdivpStiSt i s)

/-- FCOMPP: compare ST(0) with ST(1), then pop twice; rm is not used (spec R236). -/
def ruleFcompp (_i : BitVec 3) (s : State) : State :=
  s.onBlock fun b => (b.compare (b.getST 0) (b.getST 1)).pop.pop

/-- FCOMPP: the transaction (spec R236, R174). -/
def execFcompp (i : BitVec 3) (s : State) : Answer := complete 1 (ruleFcompp i s)

end Sys2Proof.Machine
end

