-- ==== Sys2Proof/Machine/Control.lean ====
section
/-! DEFINITION. Control, environment and stack-pointer instructions (spec R320 to R334). -/

namespace Sys2Proof.Machine

/-- Consecutive words of memory, little-endian (spec R320). -/
def State.storeWords (s : State) (seg off : Word) : List Word → State
  | [] => s
  | w :: rest => (s.write16 seg off w).storeWords seg (off + 2) rest

/-- The seven words of the environment (spec R320, R326). -/
def Block.environment (b : Block) : List Word := [b.cw, b.sw, tagWord b.tags, 0, 0, 0, 0]

/-- CW, SW and TAG loaded raw; R is not touched (spec R325). -/
def Block.withEnvironment (b : Block) (cw sw tw : Word) : Block :=
  { b with cw := cw, sw := sw, tags := tagsOfWord tw }

/-- FNOP: no state change (spec R321). -/
def ruleFnop (s : State) : State :=
  s

/-- FNOP: the transaction (spec R321, R174). -/
def execFnop (s : State) : Answer := complete 1 (ruleFnop s)

/-- FDECSTP: TOP <- TOP - 1 (spec R322). -/
def ruleFdecstp (s : State) : State :=
  s.onBlock Block.decSTP

/-- FDECSTP: the transaction (spec R322, R174). -/
def execFdecstp (s : State) : Answer := complete 1 (ruleFdecstp s)

/-- FINCSTP: TOP <- TOP + 1 (spec R323). -/
def ruleFincstp (s : State) : State :=
  s.onBlock Block.incSTP

/-- FINCSTP: the transaction (spec R323, R174). -/
def execFincstp (s : State) : Answer := complete 1 (ruleFincstp s)

/-- FLDCW m16: CW <- the word (spec R324). -/
def ruleFldcwM16 (m : MemOperand) (s : State) : State :=
  s.onBlock fun b => { b with cw := s.read16 (s.eaSeg m) (s.eaOff m) }

/-- FLDCW m16: the transaction (spec R324, R174). -/
def execFldcwM16 (m : MemOperand) (s : State) : Answer := complete m.skip (ruleFldcwM16 m s)

/-- FLDENV m14: CW, SW and the tags loaded raw; bytes 6 to 13 are not read (spec R325). -/
def ruleFldenvM14 (m : MemOperand) (s : State) : State :=
  s.onBlock fun b => b.withEnvironment (s.read16 (s.eaSeg m) (s.eaOff m))
    (s.read16 (s.eaSeg m) (s.eaOff m + 2)) (s.read16 (s.eaSeg m) (s.eaOff m + 4))

/-- FLDENV m14: the transaction (spec R325, R174). -/
def execFldenvM14 (m : MemOperand) (s : State) : Answer := complete m.skip (ruleFldenvM14 m s)

/-- FSTENV m14: the seven words stored; no block state changes (spec R326). -/
def ruleFstenvM14 (m : MemOperand) (s : State) : State :=
  s.storeWords (s.eaSeg m) (s.eaOff m) s.block.environment

/-- FSTENV m14: the transaction (spec R326, R174). -/
def execFstenvM14 (m : MemOperand) (s : State) : Answer := complete m.skip (ruleFstenvM14 m s)

/-- FSTCW m16: CW stored (spec R327). -/
def ruleFstcwM16 (m : MemOperand) (s : State) : State :=
  s.write16 (s.eaSeg m) (s.eaOff m) s.block.cw

/-- FSTCW m16: the transaction (spec R327, R174). -/
def execFstcwM16 (m : MemOperand) (s : State) : Answer := complete m.skip (ruleFstcwM16 m s)

/-- FSTSW m16: SW stored (spec R328). -/
def ruleFstswM16 (m : MemOperand) (s : State) : State :=
  s.write16 (s.eaSeg m) (s.eaOff m) s.block.sw

/-- FSTSW m16: the transaction (spec R328, R174). -/
def execFstswM16 (m : MemOperand) (s : State) : Answer := complete m.skip (ruleFstswM16 m s)

/-- FFREE ST(i): ST(i) marked empty; ignored unless ddRegForms is standard (spec R329). -/
def ruleFfreeSti (i : BitVec 3) (s : State) : State :=
  if s.params.ddRegForms = .standard then s.onBlock fun b => b.free i else s

/-- FFREE ST(i): the transaction (spec R329, R174). -/
def execFfreeSti (i : BitVec 3) (s : State) : Answer := complete 1 (ruleFfreeSti i s)

/-- FINIT: the block reset; the slots take free values (assumption log 12) (spec R330). -/
def ruleFinit (s : State) : State :=
  (s.drawn 8).onBlock fun _ =>
    { Block.reset with regs := Vector.ofFn fun p => Config.freeValue (s.draws + p.val) }

/-- FINIT: the transaction (spec R330, R174). -/
def execFinit (s : State) : Answer := complete 1 (ruleFinit s)

/-- FCLEX: the exception flags cleared (spec R331). -/
def ruleFclex (s : State) : State :=
  s.onBlock Block.clearExceptions

/-- FCLEX: the transaction (spec R331, R174). -/
def execFclex (s : State) : Answer := complete 1 (ruleFclex s)

/-- FSTSW AX: AX <- SW (spec R334). -/
def ruleFstswAx (s : State) : State :=
  { s with guest := { s.guest with ax := s.block.sw } }

/-- FSTSW AX: the transaction (spec R334, R174). -/
def execFstswAx (s : State) : Answer := complete 1 (ruleFstswAx s)

end Sys2Proof.Machine
end

