-- ==== Sys2Proof/Machine/Ignored.lean ====
section
/-! DEFINITION. The ignored combinations (spec R340, R341): no block state and no memory changes, the data operand is not
read or written, and the patch advances RetIP by the decoded skip. -/

namespace Sys2Proof.Machine

/-- (ignored) D8 register forms: no state change (spec R340). -/
def ruleIgnoredD8Reg (_op _rm : BitVec 3) (s : State) : State :=
  s

/-- (ignored) D8 register forms: the transaction (spec R340, R174). -/
def execIgnoredD8Reg (op rm : BitVec 3) (s : State) : Answer := complete 1 (ruleIgnoredD8Reg op rm s)

/-- (ignored) DA register forms: no state change (spec R340). -/
def ruleIgnoredDaReg (_op _rm : BitVec 3) (s : State) : State :=
  s

/-- (ignored) DA register forms: the transaction (spec R340, R174). -/
def execIgnoredDaReg (op rm : BitVec 3) (s : State) : Answer := complete 1 (ruleIgnoredDaReg op rm s)

/-- (ignored) D9 /1 memory: no state change (spec R340). -/
def ruleIgnoredD9Mem1 (_m : MemOperand) (s : State) : State :=
  s

/-- (ignored) D9 /1 memory: the transaction (spec R340, R174). -/
def execIgnoredD9Mem1 (m : MemOperand) (s : State) : Answer := complete m.skip (ruleIgnoredD9Mem1 m s)

/-- (ignored) D9 D1 (D9 /2 rm 1): no state change (spec R340). -/
def ruleIgnoredD9D1 (s : State) : State :=
  s

/-- (ignored) D9 D1 (D9 /2 rm 1): the transaction (spec R340, R174). -/
def execIgnoredD9D1 (s : State) : Answer := complete 1 (ruleIgnoredD9D1 s)

/-- (ignored) D9 D2 (D9 /2 rm 2): no state change (spec R340). -/
def ruleIgnoredD9D2 (s : State) : State :=
  s

/-- (ignored) D9 D2 (D9 /2 rm 2): the transaction (spec R340, R174). -/
def execIgnoredD9D2 (s : State) : Answer := complete 1 (ruleIgnoredD9D2 s)

/-- (ignored) D9 D3 (D9 /2 rm 3): no state change (spec R340). -/
def ruleIgnoredD9D3 (s : State) : State :=
  s

/-- (ignored) D9 D3 (D9 /2 rm 3): the transaction (spec R340, R174). -/
def execIgnoredD9D3 (s : State) : Answer := complete 1 (ruleIgnoredD9D3 s)

/-- (ignored) D9 D4 (D9 /2 rm 4): no state change (spec R340). -/
def ruleIgnoredD9D4 (s : State) : State :=
  s

/-- (ignored) D9 D4 (D9 /2 rm 4): the transaction (spec R340, R174). -/
def execIgnoredD9D4 (s : State) : Answer := complete 1 (ruleIgnoredD9D4 s)

/-- (ignored) D9 D5 (D9 /2 rm 5): no state change (spec R340). -/
def ruleIgnoredD9D5 (s : State) : State :=
  s

/-- (ignored) D9 D5 (D9 /2 rm 5): the transaction (spec R340, R174). -/
def execIgnoredD9D5 (s : State) : Answer := complete 1 (ruleIgnoredD9D5 s)

/-- (ignored) D9 D6 (D9 /2 rm 6): no state change (spec R340). -/
def ruleIgnoredD9D6 (s : State) : State :=
  s

/-- (ignored) D9 D6 (D9 /2 rm 6): the transaction (spec R340, R174). -/
def execIgnoredD9D6 (s : State) : Answer := complete 1 (ruleIgnoredD9D6 s)

/-- (ignored) D9 D7 (D9 /2 rm 7): no state change (spec R340). -/
def ruleIgnoredD9D7 (s : State) : State :=
  s

/-- (ignored) D9 D7 (D9 /2 rm 7): the transaction (spec R340, R174). -/
def execIgnoredD9D7 (s : State) : Answer := complete 1 (ruleIgnoredD9D7 s)

/-- (ignored) D9 /3 register (D9 D8..DF): no state change (spec R340). -/
def ruleIgnoredD9Reg3 (_i : BitVec 3) (s : State) : State :=
  s

/-- (ignored) D9 /3 register (D9 D8..DF): the transaction (spec R340, R174). -/
def execIgnoredD9Reg3 (i : BitVec 3) (s : State) : Answer := complete 1 (ruleIgnoredD9Reg3 i s)

/-- (ignored) D9 E2: no state change (spec R340). -/
def ruleIgnoredD9E2 (s : State) : State :=
  s

/-- (ignored) D9 E2: the transaction (spec R340, R174). -/
def execIgnoredD9E2 (s : State) : Answer := complete 1 (ruleIgnoredD9E2 s)

/-- (ignored) D9 E3: no state change (spec R340). -/
def ruleIgnoredD9E3 (s : State) : State :=
  s

/-- (ignored) D9 E3: the transaction (spec R340, R174). -/
def execIgnoredD9E3 (s : State) : Answer := complete 1 (ruleIgnoredD9E3 s)

/-- (ignored) D9 E6: no state change (spec R340). -/
def ruleIgnoredD9E6 (s : State) : State :=
  s

/-- (ignored) D9 E6: the transaction (spec R340, R174). -/
def execIgnoredD9E6 (s : State) : Answer := complete 1 (ruleIgnoredD9E6 s)

/-- (ignored) D9 E7: no state change (spec R340). -/
def ruleIgnoredD9E7 (s : State) : State :=
  s

/-- (ignored) D9 E7: the transaction (spec R340, R174). -/
def execIgnoredD9E7 (s : State) : Answer := complete 1 (ruleIgnoredD9E7 s)

/-- (ignored) D9 EF: no state change (spec R340). -/
def ruleIgnoredD9Ef (s : State) : State :=
  s

/-- (ignored) D9 EF: the transaction (spec R340, R174). -/
def execIgnoredD9Ef (s : State) : Answer := complete 1 (ruleIgnoredD9Ef s)

/-- (ignored) D9 F5: no state change (spec R340). -/
def ruleIgnoredD9F5 (s : State) : State :=
  s

/-- (ignored) D9 F5: the transaction (spec R340, R174). -/
def execIgnoredD9F5 (s : State) : Answer := complete 1 (ruleIgnoredD9F5 s)

/-- (ignored) D9 FB: no state change (spec R340). -/
def ruleIgnoredD9Fb (s : State) : State :=
  s

/-- (ignored) D9 FB: the transaction (spec R340, R174). -/
def execIgnoredD9Fb (s : State) : Answer := complete 1 (ruleIgnoredD9Fb s)

/-- (ignored) D9 FE: no state change (spec R340). -/
def ruleIgnoredD9Fe (s : State) : State :=
  s

/-- (ignored) D9 FE: the transaction (spec R340, R174). -/
def execIgnoredD9Fe (s : State) : Answer := complete 1 (ruleIgnoredD9Fe s)

/-- (ignored) D9 FF: no state change (spec R340). -/
def ruleIgnoredD9Ff (s : State) : State :=
  s

/-- (ignored) D9 FF: the transaction (spec R340, R174). -/
def execIgnoredD9Ff (s : State) : Answer := complete 1 (ruleIgnoredD9Ff s)

/-- (ignored) DB /1 memory: no state change (spec R340). -/
def ruleIgnoredDbMem1 (_m : MemOperand) (s : State) : State :=
  s

/-- (ignored) DB /1 memory: the transaction (spec R340, R174). -/
def execIgnoredDbMem1 (m : MemOperand) (s : State) : Answer := complete m.skip (ruleIgnoredDbMem1 m s)

/-- (ignored) DB /4 memory: no state change (spec R340). -/
def ruleIgnoredDbMem4 (_m : MemOperand) (s : State) : State :=
  s

/-- (ignored) DB /4 memory: the transaction (spec R340, R174). -/
def execIgnoredDbMem4 (m : MemOperand) (s : State) : Answer := complete m.skip (ruleIgnoredDbMem4 m s)

/-- (ignored) DB /6 memory: no state change (spec R340). -/
def ruleIgnoredDbMem6 (_m : MemOperand) (s : State) : State :=
  s

/-- (ignored) DB /6 memory: the transaction (spec R340, R174). -/
def execIgnoredDbMem6 (m : MemOperand) (s : State) : Answer := complete m.skip (ruleIgnoredDbMem6 m s)

/-- (ignored) DB register forms other than E2, E3: no state change (spec R340). -/
def ruleIgnoredDbReg (_op _rm : BitVec 3) (s : State) : State :=
  s

/-- (ignored) DB register forms other than E2, E3: the transaction (spec R340, R174). -/
def execIgnoredDbReg (op rm : BitVec 3) (s : State) : Answer := complete 1 (ruleIgnoredDbReg op rm s)

/-- (ignored) DC register op 2: no state change (spec R340). -/
def ruleIgnoredDcReg2 (_i : BitVec 3) (s : State) : State :=
  s

/-- (ignored) DC register op 2: the transaction (spec R340, R174). -/
def execIgnoredDcReg2 (i : BitVec 3) (s : State) : Answer := complete 1 (ruleIgnoredDcReg2 i s)

/-- (ignored) DC register op 3: no state change (spec R340). -/
def ruleIgnoredDcReg3 (_i : BitVec 3) (s : State) : State :=
  s

/-- (ignored) DC register op 3: the transaction (spec R340, R174). -/
def execIgnoredDcReg3 (i : BitVec 3) (s : State) : Answer := complete 1 (ruleIgnoredDcReg3 i s)

/-- (ignored) DE register op 2: no state change (spec R340). -/
def ruleIgnoredDeReg2 (_i : BitVec 3) (s : State) : State :=
  s

/-- (ignored) DE register op 2: the transaction (spec R340, R174). -/
def execIgnoredDeReg2 (i : BitVec 3) (s : State) : Answer := complete 1 (ruleIgnoredDeReg2 i s)

/-- (ignored) DD /1 memory: no state change (spec R340). -/
def ruleIgnoredDdMem1 (_m : MemOperand) (s : State) : State :=
  s

/-- (ignored) DD /1 memory: the transaction (spec R340, R174). -/
def execIgnoredDdMem1 (m : MemOperand) (s : State) : Answer := complete m.skip (ruleIgnoredDdMem1 m s)

/-- (ignored) DD /4 memory: no state change (spec R340). -/
def ruleIgnoredDdMem4 (_m : MemOperand) (s : State) : State :=
  s

/-- (ignored) DD /4 memory: the transaction (spec R340, R174). -/
def execIgnoredDdMem4 (m : MemOperand) (s : State) : Answer := complete m.skip (ruleIgnoredDdMem4 m s)

/-- (ignored) DD /5 memory: no state change (spec R340). -/
def ruleIgnoredDdMem5 (_m : MemOperand) (s : State) : State :=
  s

/-- (ignored) DD /5 memory: the transaction (spec R340, R174). -/
def execIgnoredDdMem5 (m : MemOperand) (s : State) : Answer := complete m.skip (ruleIgnoredDdMem5 m s)

/-- (ignored) DD /6 memory: no state change (spec R340). -/
def ruleIgnoredDdMem6 (_m : MemOperand) (s : State) : State :=
  s

/-- (ignored) DD /6 memory: the transaction (spec R340, R174). -/
def execIgnoredDdMem6 (m : MemOperand) (s : State) : Answer := complete m.skip (ruleIgnoredDdMem6 m s)

/-- (ignored) DD register op 1, 4, 5, 6, 7 (and ops 0, 2, 3 when ddRegForms = ignored): no state change (spec R340). -/
def ruleIgnoredDdReg (_op _rm : BitVec 3) (s : State) : State :=
  s

/-- (ignored) DD register op 1, 4, 5, 6, 7 (and ops 0, 2, 3 when ddRegForms = ignored): the transaction (spec R340, R174). -/
def execIgnoredDdReg (op rm : BitVec 3) (s : State) : Answer := complete 1 (ruleIgnoredDdReg op rm s)

/-- (ignored) DF /1 memory: no state change (spec R340). -/
def ruleIgnoredDfMem1 (_m : MemOperand) (s : State) : State :=
  s

/-- (ignored) DF /1 memory: the transaction (spec R340, R174). -/
def execIgnoredDfMem1 (m : MemOperand) (s : State) : Answer := complete m.skip (ruleIgnoredDfMem1 m s)

/-- (ignored) DF /4 memory: no state change (spec R340). -/
def ruleIgnoredDfMem4 (_m : MemOperand) (s : State) : State :=
  s

/-- (ignored) DF /4 memory: the transaction (spec R340, R174). -/
def execIgnoredDfMem4 (m : MemOperand) (s : State) : Answer := complete m.skip (ruleIgnoredDfMem4 m s)

/-- (ignored) DF /6 memory: no state change (spec R340). -/
def ruleIgnoredDfMem6 (_m : MemOperand) (s : State) : State :=
  s

/-- (ignored) DF /6 memory: the transaction (spec R340, R174). -/
def execIgnoredDfMem6 (m : MemOperand) (s : State) : Answer := complete m.skip (ruleIgnoredDfMem6 m s)

/-- (ignored) DF register forms other than E0: no state change (spec R340). -/
def ruleIgnoredDfReg (_op _rm : BitVec 3) (s : State) : State :=
  s

/-- (ignored) DF register forms other than E0: the transaction (spec R340, R174). -/
def execIgnoredDfReg (op rm : BitVec 3) (s : State) : Answer := complete 1 (ruleIgnoredDfReg op rm s)

end Sys2Proof.Machine
end

