-- ==== Sys2Proof/Machine/LoadStore.lean ====
section
/-! DEFINITION. Loads, stores, register moves and constants (spec R250 to R277). -/

namespace Sys2Proof.Machine

/-- A load (spec R250): the converted operand is pushed. -/
def State.loadPush (s : State) (r : Option Double) : State := s.pushResult r

/-- ST(0) as a store reads it, whatever its tag (spec R250, R46). -/
def State.st0 (s : State) : Double := s.block.getST 0

/-- The state a store-with-pop writes in: ST(0) was read before the pop (spec R250, R73). -/
def State.popped (s : State) : State := s.onBlock Block.pop

/-- FLD m32real: push the 32-bit float (spec R251). -/
def ruleFldM32real (m : MemOperand) (s : State) : State :=
  s.loadPush (s.readFloat32 m)

/-- FLD m32real: the transaction (spec R251, R174). -/
def execFldM32real (m : MemOperand) (s : State) : Answer := complete m.skip (ruleFldM32real m s)

/-- FST m32real: store ST(0) as a 32-bit float, no pop (spec R252). -/
def ruleFstM32real (m : MemOperand) (s : State) : State :=
  s.writeFloat32 m s.st0

/-- FST m32real: the transaction (spec R252, R174). -/
def execFstM32real (m : MemOperand) (s : State) : Answer := complete m.skip (ruleFstM32real m s)

/-- FSTP m32real: store ST(0) as a 32-bit float, then pop (spec R253). -/
def ruleFstpM32real (m : MemOperand) (s : State) : State :=
  s.popped.writeFloat32 m s.st0

/-- FSTP m32real: the transaction (spec R253, R174). -/
def execFstpM32real (m : MemOperand) (s : State) : Answer := complete m.skip (ruleFstpM32real m s)

/-- FILD m32int: push the 32-bit integer (spec R254). -/
def ruleFildM32int (m : MemOperand) (s : State) : State :=
  s.loadPush (s.readInt32 m)

/-- FILD m32int: the transaction (spec R254, R174). -/
def execFildM32int (m : MemOperand) (s : State) : Answer := complete m.skip (ruleFildM32int m s)

/-- FIST m32int: store ST(0) as a 32-bit integer, no pop (spec R255). -/
def ruleFistM32int (m : MemOperand) (s : State) : State :=
  s.writeInt32 m s.st0

/-- FIST m32int: the transaction (spec R255, R174). -/
def execFistM32int (m : MemOperand) (s : State) : Answer := complete m.skip (ruleFistM32int m s)

/-- FISTP m32int: store ST(0) as a 32-bit integer, then pop (spec R256). -/
def ruleFistpM32int (m : MemOperand) (s : State) : State :=
  s.popped.writeInt32 m s.st0

/-- FISTP m32int: the transaction (spec R256, R174). -/
def execFistpM32int (m : MemOperand) (s : State) : Answer := complete m.skip (ruleFistpM32int m s)

/-- FLD m80real: push the 80-bit extended value (spec R257). -/
def ruleFldM80real (m : MemOperand) (s : State) : State :=
  s.loadPush (s.readFloat80 m)

/-- FLD m80real: the transaction (spec R257, R174). -/
def execFldM80real (m : MemOperand) (s : State) : Answer := complete m.skip (ruleFldM80real m s)

/-- FSTP m80real: store ST(0) as an 80-bit extended value, then pop (spec R258). -/
def ruleFstpM80real (m : MemOperand) (s : State) : State :=
  s.popped.writeFloat80 m s.st0

/-- FSTP m80real: the transaction (spec R258, R174). -/
def execFstpM80real (m : MemOperand) (s : State) : Answer := complete m.skip (ruleFstpM80real m s)

/-- FLD m64real: push the 64-bit float (spec R259). -/
def ruleFldM64real (m : MemOperand) (s : State) : State :=
  s.loadPush (s.readFloat64 m)

/-- FLD m64real: the transaction (spec R259, R174). -/
def execFldM64real (m : MemOperand) (s : State) : Answer := complete m.skip (ruleFldM64real m s)

/-- FST m64real: store ST(0) as a 64-bit float, no pop (spec R260). -/
def ruleFstM64real (m : MemOperand) (s : State) : State :=
  s.writeFloat64 m s.st0

/-- FST m64real: the transaction (spec R260, R174). -/
def execFstM64real (m : MemOperand) (s : State) : Answer := complete m.skip (ruleFstM64real m s)

/-- FSTP m64real: store ST(0) as a 64-bit float, then pop (spec R261). -/
def ruleFstpM64real (m : MemOperand) (s : State) : State :=
  s.popped.writeFloat64 m s.st0

/-- FSTP m64real: the transaction (spec R261, R174). -/
def execFstpM64real (m : MemOperand) (s : State) : Answer := complete m.skip (ruleFstpM64real m s)

/-- FILD m16int: push the 16-bit integer (spec R262). -/
def ruleFildM16int (m : MemOperand) (s : State) : State :=
  s.loadPush (s.readInt16 m)

/-- FILD m16int: the transaction (spec R262, R174). -/
def execFildM16int (m : MemOperand) (s : State) : Answer := complete m.skip (ruleFildM16int m s)

/-- FIST m16int: store ST(0) as a 16-bit integer, no pop (spec R263). -/
def ruleFistM16int (m : MemOperand) (s : State) : State :=
  s.writeInt16 m s.st0

/-- FIST m16int: the transaction (spec R263, R174). -/
def execFistM16int (m : MemOperand) (s : State) : Answer := complete m.skip (ruleFistM16int m s)

/-- FISTP m16int: store ST(0) as a 16-bit integer, then pop (spec R264). -/
def ruleFistpM16int (m : MemOperand) (s : State) : State :=
  s.popped.writeInt16 m s.st0

/-- FISTP m16int: the transaction (spec R264, R174). -/
def execFistpM16int (m : MemOperand) (s : State) : Answer := complete m.skip (ruleFistpM16int m s)

/-- FILD m64int: push the 64-bit integer (spec R265). -/
def ruleFildM64int (m : MemOperand) (s : State) : State :=
  s.loadPush (s.readInt64 m)

/-- FILD m64int: the transaction (spec R265, R174). -/
def execFildM64int (m : MemOperand) (s : State) : Answer := complete m.skip (ruleFildM64int m s)

/-- FISTP m64int: store ST(0) as a 64-bit integer, then pop (spec R266). -/
def ruleFistpM64int (m : MemOperand) (s : State) : State :=
  s.popped.writeInt64 m s.st0

/-- FISTP m64int: the transaction (spec R266, R174). -/
def execFistpM64int (m : MemOperand) (s : State) : Answer := complete m.skip (ruleFistpM64int m s)

/-- FLD ST(i): push a copy of ST(i), read before the push (spec R267). -/
def ruleFldSti (i : BitVec 3) (s : State) : State :=
  s.onBlock fun b => b.push (b.getST i)

/-- FLD ST(i): the transaction (spec R267, R174). -/
def execFldSti (i : BitVec 3) (s : State) : Answer := complete 1 (ruleFldSti i s)

/-- FXCH ST(i): exchange ST(0) and ST(i), both tags derived again (spec R268). -/
def ruleFxchSti (i : BitVec 3) (s : State) : State :=
  s.onBlock fun b => (b.setST 0 (b.getST i)).setST i (b.getST 0)

/-- FXCH ST(i): the transaction (spec R268, R174). -/
def execFxchSti (i : BitVec 3) (s : State) : Answer := complete 1 (ruleFxchSti i s)

/-- FST ST(i): copy ST(0) to ST(i); ignored unless ddRegForms is standard (spec R269). -/
def ruleFstSti (i : BitVec 3) (s : State) : State :=
  if s.params.ddRegForms = .standard then s.onBlock fun b => b.setST i (b.getST 0) else s

/-- FST ST(i): the transaction (spec R269, R174). -/
def execFstSti (i : BitVec 3) (s : State) : Answer := complete 1 (ruleFstSti i s)

/-- FSTP ST(i): copy ST(0) to ST(i), then pop; ignored unless ddRegForms is standard (spec R270). -/
def ruleFstpSti (i : BitVec 3) (s : State) : State :=
  if s.params.ddRegForms = .standard then s.onBlock fun b => (b.setST i (b.getST 0)).pop else s

/-- FSTP ST(i): the transaction (spec R270, R174). -/
def execFstpSti (i : BitVec 3) (s : State) : Answer := complete 1 (ruleFstpSti i s)

/-- FLD1: push 1.0 (spec R271). -/
def ruleFld1 (s : State) : State :=
  s.onBlock fun b => b.push F64.oneDouble

/-- FLD1: the transaction (spec R271, R174). -/
def execFld1 (s : State) : Answer := complete 1 (ruleFld1 s)

/-- FLDL2T: push log2(10) (spec R272). -/
def ruleFldl2t (s : State) : State :=
  s.onBlock fun b => b.push s.params.log2_10

/-- FLDL2T: the transaction (spec R272, R174). -/
def execFldl2t (s : State) : Answer := complete 1 (ruleFldl2t s)

/-- FLDL2E: push log2(e) (spec R273). -/
def ruleFldl2e (s : State) : State :=
  s.onBlock fun b => b.push s.params.log2_e

/-- FLDL2E: the transaction (spec R273, R174). -/
def execFldl2e (s : State) : Answer := complete 1 (ruleFldl2e s)

/-- FLDPI: push pi (spec R274). -/
def ruleFldpi (s : State) : State :=
  s.onBlock fun b => b.push s.params.pi

/-- FLDPI: the transaction (spec R274, R174). -/
def execFldpi (s : State) : Answer := complete 1 (ruleFldpi s)

/-- FLDLG2: push log10(2) (spec R275). -/
def ruleFldlg2 (s : State) : State :=
  s.onBlock fun b => b.push s.params.log10_2

/-- FLDLG2: the transaction (spec R275, R174). -/
def execFldlg2 (s : State) : Answer := complete 1 (ruleFldlg2 s)

/-- FLDLN2: push ln(2) (spec R276). -/
def ruleFldln2 (s : State) : State :=
  s.onBlock fun b => b.push s.params.ln_2

/-- FLDLN2: the transaction (spec R276, R174). -/
def execFldln2 (s : State) : Answer := complete 1 (ruleFldln2 s)

/-- FLDZ: push +0.0 (spec R277). -/
def ruleFldz (s : State) : State :=
  s.onBlock fun b => b.push (F64.zero false)

/-- FLDZ: the transaction (spec R277, R174). -/
def execFldz (s : State) : Answer := complete 1 (ruleFldz s)

end Sys2Proof.Machine
end

