-- ==== Sys2Proof/Machine/Approx.lean ====
section
/-! DEFINITION. The transcendental approximator's five functions, the parameter `tr` (spec R139): the special
values, and under the reference choice the value of a finite argument, `rnd64` of the exact mathematical value.
The exact value is enclosed between two rationals by a series in fixed point; where both round to the same
pattern, that is the result, and where they do not, the result is an opaque value (assumption log 10). -/

namespace Sys2Proof.Machine

/-! ### Enclosures -/

/-- Bits of the fixed-point series. -/
def trBits : Nat := 320

/-- How far, in units of the last fixed-point bit, a computed series may lie from the exact one; the true bound
is some hundreds of units. -/
def trSlack : Nat := 2 ^ 20

/-- ln 2 * 2^320, rounded down. -/
def trLn2 : Nat := 0xb17217f7d1cf79abc9e3b39803f2f6af40f343267298b62d8a0d175b8baafa2be7b876206debac98

/-- pi * 2^1500, rounded down. -/
def trPi : Nat :=
  0x3243f6a8885a308d313198a2e03707344a4093822299f31d0082efa98ec4e6c89452821e638d01377be5466cf34e90c6cc0ac29b7c97c50dd3f84d5b5b54709179216d5d98979fb1bd1310ba698dfb5ac2ffd72dbd01adfb7b8e1afed6a267e96ba7c9045f12c7f9924a19947b3916cf70801f2e2858efc16636920d871574e69a458fea3f4933d7e0d95748f728eb658718bcd5882154aee7b54a41dc25a59b59c30d5392af26013c5d1b023286085f0ca417918b8db38ef8e79dcb

/-- atan(1/2) * 2^320, rounded down. -/
def trAtanHalf : Nat := 0x76b19c1586ed3da2b7f222f65e1d4681b70a0ac3930e6f8071678b7374b12384fd4e2c8bc495a8b6

/-- pi * 2^320, rounded down. -/
def trPiShort : Nat := trPi / 2 ^ 1180

/-- A pattern when both ends of an enclosure, n / d in units of 1, round to it. -/
def roundBetween (s : Bool) (nlo dlo nhi dhi : Nat) : Option Double :=
  if roundMag 52 F64.infMag (nlo * F64.one) dlo = roundMag 52 F64.infMag (nhi * F64.one) dhi then
    some (F64.round s (nlo * F64.one) dlo)
  else none

/-- Terms of e^t, t in fixed point: the sum of t^j / j! from j on, given the term before. -/
def expTerms (t : Nat) : Nat → Nat → Nat → Nat
  | 0, _, _ => 0
  | fuel + 1, j, term => term + expTerms t fuel (j + 1) (term * t / (j * 2 ^ trBits))

/-- The sum of w^j / (2 j + 1), w in fixed point; `alternate` makes the odd terms negative. -/
def oddTerms (bits : Nat) (alternate : Bool) (w : Nat) : Nat → Nat → Nat → Int
  | 0, _, _ => 0
  | fuel + 1, j, power =>
    (if alternate && j % 2 == 1 then -((power / (2 * j + 1) : Nat) : Int) else ((power / (2 * j + 1) : Nat) : Int))
      + oddTerms bits alternate w fuel (j + 1) (power * w / 2 ^ bits)

/-- The alternating sum of w^j / (step k)!, the terms of cos (first = 1) and of sin r / r (first = 2). -/
def trigTerms (bits w : Nat) : Nat → Nat → Bool → Nat → Int
  | 0, _, _, _ => 0
  | fuel + 1, k, minus, term =>
    (if minus then -(term : Int) else (term : Int))
      + trigTerms bits w fuel (k + 2) (!minus) (term * w / (2 ^ bits * (k * (k + 1))))

/-! ### 2^x - 1 -/

/-- 2^x - 1 for an integer x = k: exact before the one rounding. -/
def exp2m1Int (negative : Bool) (k : Nat) : Double :=
  if negative then F64.round true ((2 ^ k - 1) * F64.one) (2 ^ k) else F64.round false ((2 ^ k - 1) * F64.one) 1

/-- 2^x - 1 for |x| below 2^-40: |x| * ln 2 * (1 ± v/2 + v^2/6 ± ...) with v = |x| * ln 2. -/
def exp2m1Small (x : Double) : Option Double :=
  let u := F64.units x
  let v := u * trLn2 / F64.one
  let odd := v / 2 + v * v * v / (24 * 4 ^ trBits)
  let even := 2 ^ trBits + v * v / (6 * 2 ^ trBits)
  let g := if F64.sign x then even - odd else even + odd
  let tail := v * v * v * v / (8 ^ trBits * 60) + trSlack
  roundBetween (F64.sign x) (u * trLn2 * (g - tail)) (F64.one * 4 ^ trBits)
    (u * (trLn2 + 1) * (g + tail)) (F64.one * 4 ^ trBits)

/-- 2^x - 1 for the other x: 2^k * e^(f ln 2) - 1 with x = k + f, 0 ≤ f < 1. -/
def exp2m1Large (x : Double) : Option Double :=
  let one := 2 ^ trBits
  let k := F64.value x / (F64.one : Int)
  let f := (F64.value x % (F64.one : Int)).toNat
  let e := expTerms (f * trLn2 / F64.one) 90 1 one
  if 0 ≤ k then
    roundBetween false ((e - trSlack) * 2 ^ k.toNat - one) one ((e + trSlack) * 2 ^ k.toNat - one) one
  else
    let d := one * 2 ^ (-k).toNat
    roundBetween true (d - (e + trSlack)) d (d - (e - trSlack)) d

/-- The reference 2^x - 1 of a finite nonzero x. -/
def exp2m1Value (x : Double) : Option Double :=
  if F64.units x % F64.one = 0 then
    (if 1024 * F64.one ≤ F64.units x then some (if F64.sign x then F64.neg F64.oneDouble else F64.inf false)
     else some (exp2m1Int (F64.sign x) (F64.units x / F64.one)))
  else if F64.units x * 2 ^ 40 < F64.one then exp2m1Small x
  else if 64 * F64.one ≤ F64.units x && F64.sign x then some (F64.neg F64.oneDouble)
  else if 1024 * F64.one ≤ F64.units x then some (F64.inf false)
  else exp2m1Large x

/-! ### log2 of an exact positive rational -/

/-- log2(m * 2^e) from z = (m - 1) / (m + 1) = ±zn / zd: e ± 2 z (1 + z^2/3 + ...) / ln 2. -/
def log2Assemble (e : Int) (zneg : Bool) (zn zd : Nat) : Option Double :=
  let w := zn * zn * 2 ^ trBits / (zd * zd)
  let s := (oddTerms trBits false w 80 0 (2 ^ trBits)).toNat
  let nlo := 2 * zn * (s - trSlack)
  let nhi := 2 * zn * (s + trSlack)
  let dlo := zd * trLn2
  let dhi := zd * (trLn2 + 1)
  let a := e.natAbs
  if e = 0 then roundBetween zneg nlo dhi nhi dlo
  else if decide (e < 0) == zneg then roundBetween (decide (e < 0)) (a * dhi + nlo) dhi (a * dlo + nhi) dlo
  else roundBetween (decide (e < 0)) (a * dlo - nhi) dlo (a * dhi - nlo) dhi

/-- The exponent e of n / d = m * 2^e with m in [1, 2). -/
def ratExponent (n d : Nat) : Int :=
  if d ≤ n then (Nat.log2 (n / d) : Int)
  else -(Nat.log2 ((d + n - 1) / n - 1) : Int) - 1

/-- log2(n / d), n and d positive. -/
def log2Rat (n d : Nat) : Option Double :=
  let e := ratExponent n d
  let n1 := n * 2 ^ (-e).toNat
  let d1 := d * 2 ^ e.toNat
  if n1 * n1 ≤ 2 * d1 * d1 then log2Assemble e false (n1 - d1) (n1 + d1)
  else log2Assemble (e + 1) true (2 * d1 - n1) (n1 + 2 * d1)

/-! ### tan -/

/-- Bits of the reduced argument of tan. -/
def tanBits : Nat := 440

/-- sin r / r, w = r^2. -/
def sincSeries (w : Nat) : Nat := (trigTerms tanBits w 60 2 false (2 ^ tanBits)).toNat

/-- cos r, w = r^2. -/
def cosSeries (w : Nat) : Nat := (trigTerms tanBits w 60 1 false (2 ^ tanBits)).toNat

/-- tan r or -1 / tan r, from |r| = n / d with both ends, and w = r^2. -/
def tanAssemble (odd rneg : Bool) (nlo nhi d w slack : Nat) : Option Double :=
  let s := sincSeries w
  let c := cosSeries w
  if odd then roundBetween (!rneg) ((c - slack) * d) (nhi * (s + slack)) ((c + slack) * d) (nlo * (s - slack))
  else roundBetween rneg (nlo * (s - slack)) ((c + slack) * d) (nhi * (s + slack)) ((c - slack) * d)

/-- tan of a finite nonzero x (in radians): x = k pi/2 + r with |r| at most about pi/4. -/
def tanValue (x : Double) : Option Double :=
  let u := F64.units x
  -- |x| at 2^1501; pi/2 there is trPi
  let a := u * 2 ^ 427
  let k := (2 * a + trPi) / (2 * trPi)
  if k = 0 then
    let w := u * u * 2 ^ tanBits / (F64.one * F64.one)
    tanAssemble false (F64.sign x) u u F64.one w trSlack
  else
    let r := (a : Int) - ((trPi * k : Nat) : Int)
    let rs := r.natAbs * 2 ^ tanBits / 2 ^ 1501
    let w := rs * rs / 2 ^ tanBits
    tanAssemble (k % 2 == 1) ((decide (r < 0)) != F64.sign x) (rs - trSlack) (rs + trSlack) (2 ^ tanBits) w
      (2 ^ 40)

/-! ### atan2 -/

/-- z * (1 - z^2/3 + z^4/5 - ...) as (numerator low, numerator high, denominator) for z = zn / zd, at most 1/4. -/
def atanSmall (zn zd : Nat) : Nat × Nat × Nat :=
  let w := zn * zn * 2 ^ trBits / (zd * zd)
  let s := (oddTerms trBits true w 90 0 (2 ^ trBits)).toNat
  (zn * (s - trSlack), zn * (s + trSlack), zd * 2 ^ trBits)

/-- base ± z in fixed point, as an enclosure over a common denominator. -/
def aroundBase (base : Nat) (minus : Bool) (z : Nat × Nat × Nat) : Nat × Nat × Nat :=
  let d := z.2.2
  if minus then ((base * d - z.2.1 * 2 ^ trBits) , ((base + trSlack) * d - z.1 * 2 ^ trBits), d * 2 ^ trBits)
  else (base * d + z.1 * 2 ^ trBits, (base + trSlack) * d + z.2.1 * 2 ^ trBits, d * 2 ^ trBits)

/-- atan(n / d) for 0 < n ≤ d, about 0, 1/2 or 1. -/
def atanUnit (n d : Nat) : Nat × Nat × Nat :=
  if 4 * n < d then atanSmall n d
  else if 4 * n < 3 * d then
    (if d ≤ 2 * n then aroundBase trAtanHalf false (atanSmall (2 * n - d) (2 * d + n))
     else aroundBase trAtanHalf true (atanSmall (d - 2 * n) (2 * d + n)))
  else aroundBase (trPiShort / 4) true (atanSmall (d - n) (d + n))

/-- atan(n / d) for positive n, d. -/
def atanRat (n d : Nat) : Nat × Nat × Nat :=
  if n ≤ d then atanUnit n d else aroundBase (trPiShort / 2) true (atanUnit d n)

/-- Bits of the bound of `atan2Tiny`: more than twice a significand's, so that no other double or midpoint lies as
near to a quotient of two doubles. -/
def atanTinyBits : Nat := 200

/-- atan2(y, x) for positive x and a quotient z = |y| / x below 2^-200. The exact value lies strictly between
z (1 - 2^-200) and z, and the rounding changes nowhere between them: z may itself be a midpoint, half an odd multiple
of 2^-1074, and no other midpoint is that near (spec R139, R297). So the lower end rounds as the exact value does. -/
def atan2Tiny (y x : Double) : Double :=
  F64.round (F64.sign y) (F64.units y * (2 ^ atanTinyBits - 1) * F64.one) (F64.units x * 2 ^ atanTinyBits)

/-- The reference atan2(y, x) of finite nonzero y and x. -/
def atan2Value (y x : Double) : Option Double :=
  if !F64.sign x && decide (F64.units y * 2 ^ atanTinyBits < F64.units x) then some (atan2Tiny y x)
  else
    let a := atanRat (F64.units y) (F64.units x)
    let b := if F64.sign x then aroundBase trPiShort true a else a
    roundBetween (F64.sign y) b.1 b.2.2 b.2.1 b.2.2

/-- A multiple k * pi / 4 of the special values of atan2, rounded to nearest. -/
def quarterPi (s : Bool) (k : Nat) : Double := F64.round s (trPi * k * F64.one) (2 ^ 1502)

/-! ### The five functions (spec R139) -/

/-- A computed reference, or the opaque value where the enclosure does not settle it. -/
def settledOr (v : Option Double) (other : Double) : Option Double :=
  match v with
  | some r => some r
  | none => ofParameter other

/-- `tr.exp2m1` (spec R139, R294). -/
def Tr.exp2m1 (choice : Choice) (x : Double) : Option Double :=
  match choice with
  | .unknown => ofParameter (Config.trExp2m1 x)
  | .reference =>
    if F64.isNaN x then none
    else if F64.isInf x then some (if F64.sign x then F64.neg F64.oneDouble else x)
    else if F64.isZero x then some x
    else settledOr (exp2m1Value x) (Config.trExp2m1 x)

/-- `tr.log2` (spec R139, R295). -/
def Tr.log2 (choice : Choice) (x : Double) : Option Double :=
  match choice with
  | .unknown => ofParameter (Config.trLog2 x)
  | .reference =>
    if F64.isNaN x then none
    else if F64.isZero x then some (F64.inf true)
    else if F64.sign x then none
    else if F64.isInf x then some x
    else settledOr (log2Rat (F64.units x) F64.one) (Config.trLog2 x)

/-- `tr.log2p1` (spec R139, R300). -/
def Tr.log2p1 (choice : Choice) (x : Double) : Option Double :=
  match choice with
  | .unknown => ofParameter (Config.trLog2p1 x)
  | .reference =>
    if F64.isNaN x then none
    else if F64.isZero x then some x
    else if F64.value x = -(F64.one : Int) then some (F64.inf true)
    else if F64.value x < -(F64.one : Int) then none
    else if F64.isInf x then some x
    else settledOr (log2Rat (F64.value x + (F64.one : Int)).toNat F64.one) (Config.trLog2p1 x)

/-- `tr.tan` (spec R139, R296). -/
def Tr.tan (choice : Choice) (x : Double) : Option Double :=
  match choice with
  | .unknown => ofParameter (Config.trTan x)
  | .reference =>
    if F64.isNaN x || F64.isInf x then none
    else if F64.isZero x then some x
    else settledOr (tanValue x) (Config.trTan x)

/-- `tr.atan2(y, x)` (spec R139, R297): the special cases are those of IEEE-754. -/
def Tr.atan2 (choice : Choice) (y x : Double) : Option Double :=
  match choice with
  | .unknown => ofParameter (Config.trAtan2 y x)
  | .reference =>
    let s := F64.sign y
    if F64.isNaN y || F64.isNaN x then none
    else if F64.isZero y then some (if F64.sign x then quarterPi s 4 else F64.zero s)
    else if F64.isInf y then
      some (if F64.isInf x then (if F64.sign x then quarterPi s 3 else quarterPi s 1) else quarterPi s 2)
    else if F64.isInf x then some (if F64.sign x then quarterPi s 4 else F64.zero s)
    else if F64.isZero x then some (quarterPi s 2)
    else settledOr (atan2Value y x) (Config.trAtan2 y x)

end Sys2Proof.Machine
end

