-- ==== Sys2Proof/Machine/Unary.lean ====
section
/-! DEFINITION. The D9 unary, transcendental and remainder group (spec R290 to R303). -/

namespace Sys2Proof.Machine

/-- `x <- pop(); setST(0, mul(getST(0), log))` (spec R295, R300): the logarithm of x is one result and the
product another. -/
def State.popTimesLog (s : State) (log : Option Double) : State :=
  let t := (s.settled log).onBlock Block.pop
  t.setResult 0 (F64.mul (t.block.getST 0) (s.settle log))

/-- FCHS: ST(0) with its sign bit inverted (spec R290). -/
def ruleFchs (s : State) : State :=
  s.onBlock fun b => b.setST 0 (F64.neg (b.getST 0))

/-- FCHS: the transaction (spec R290, R174). -/
def execFchs (s : State) : Answer := complete 1 (ruleFchs s)

/-- FABS: ST(0) with its sign bit cleared (spec R291). -/
def ruleFabs (s : State) : State :=
  s.onBlock fun b => b.setST 0 (F64.abs (b.getST 0))

/-- FABS: the transaction (spec R291, R174). -/
def execFabs (s : State) : Answer := complete 1 (ruleFabs s)

/-- FTST: compare ST(0) with +0.0 (spec R292). -/
def ruleFtst (s : State) : State :=
  s.onBlock fun b => b.compare (b.getST 0) (F64.zero false)

/-- FTST: the transaction (spec R292, R174). -/
def execFtst (s : State) : Answer := complete 1 (ruleFtst s)

/-- FXAM: classify ST(0) in C3, C2, C1, C0 (spec R293). -/
def ruleFxam (s : State) : State :=
  s.onBlock fun b =>
    { b with sw := swFxam b.sw s.params.fxamSubnormal (b.tag (b.phys 0)) (b.getST 0) }

/-- FXAM: the transaction (spec R293, R174). -/
def execFxam (s : State) : Answer := complete 1 (ruleFxam s)

/-- F2XM1: ST(0) <- 2^ST(0) - 1 (spec R294). -/
def ruleF2xm1 (s : State) : State :=
  s.setResult 0 (Tr.exp2m1 s.params.tr (s.block.getST 0))

/-- F2XM1: the transaction (spec R294, R174). -/
def execF2xm1 (s : State) : Answer := complete 1 (ruleF2xm1 s)

/-- FYL2X: ST(1) <- ST(1) * log2(ST(0)), then pop (spec R295). -/
def ruleFyl2x (s : State) : State :=
  s.popTimesLog (Tr.log2 s.params.tr (s.block.getST 0))

/-- FYL2X: the transaction (spec R295, R174). -/
def execFyl2x (s : State) : Answer := complete 1 (ruleFyl2x s)

/-- FPTAN: ST(0) <- tan(ST(0)), then push 1.0 (spec R296). -/
def ruleFptan (s : State) : State :=
  (s.setResult 0 (Tr.tan s.params.tr (s.block.getST 0))).onBlock fun b => b.push F64.oneDouble

/-- FPTAN: the transaction (spec R296, R174). -/
def execFptan (s : State) : Answer := complete 1 (ruleFptan s)

/-- FPATAN: ST(1) <- atan2(ST(1), ST(0)), then pop (spec R297). -/
def ruleFpatan (s : State) : State :=
  let t := s.onBlock Block.pop
  t.setResult 0 (Tr.atan2 s.params.tr (t.block.getST 0) (s.block.getST 0))

/-- FPATAN: the transaction (spec R297, R174). -/
def execFpatan (s : State) : Answer := complete 1 (ruleFpatan s)

/-- FXTRACT: ST(0) <- exponent, then push the significand; of a zero -inf and +0.0; of a NaN or an infinity two
free values (assumption log 13) (spec R298). -/
def ruleFxtract (s : State) : State :=
  let v := s.block.getST 0
  if F64.isNaN v || F64.isInf v then
    (s.drawn 2).onBlock fun b => (b.setST 0 s.freeValue).push (s.drawn 1).freeValue
  else if F64.isZero v then s.onBlock fun b => (b.setST 0 (F64.inf true)).push (F64.zero false)
  else s.onBlock fun b => (b.setST 0 (F64.logb v)).push (F64.signif v)

/-- FXTRACT: the transaction (spec R298, R174). -/
def execFxtract (s : State) : Answer := complete 1 (ruleFxtract s)

/-- FPREM: ST(0) <- IEEE remainder of ST(0) by ST(1); C2 <- 0 (spec R299). -/
def ruleFprem (s : State) : State :=
  (s.setResult 0 (F64.rem (s.block.getST 0) (s.block.getST 1))).onBlock fun b =>
    { b with sw := swSetC2 b.sw false }

/-- FPREM: the transaction (spec R299, R174). -/
def execFprem (s : State) : Answer := complete 1 (ruleFprem s)

/-- FYL2XP1: ST(1) <- ST(1) * log2(ST(0) + 1), then pop (spec R300). -/
def ruleFyl2xp1 (s : State) : State :=
  s.popTimesLog (Tr.log2p1 s.params.tr (s.block.getST 0))

/-- FYL2XP1: the transaction (spec R300, R174). -/
def execFyl2xp1 (s : State) : Answer := complete 1 (ruleFyl2xp1 s)

/-- FSQRT: ST(0) <- sqrt(ST(0)) (spec R301). -/
def ruleFsqrt (s : State) : State :=
  s.setResult 0 (F64.sqrt (s.block.getST 0))

/-- FSQRT: the transaction (spec R301, R174). -/
def execFsqrt (s : State) : Answer := complete 1 (ruleFsqrt s)

/-- FRNDINT: ST(0) <- ST(0) rounded to an integer, ties to even (spec R302). -/
def ruleFrndint (s : State) : State :=
  s.setResult 0 (F64.rint (s.block.getST 0))

/-- FRNDINT: the transaction (spec R302, R174). -/
def execFrndint (s : State) : Answer := complete 1 (ruleFrndint s)

/-- FSCALE: ST(0) <- ST(0) * 2^trunc(ST(1)) (spec R303). -/
def ruleFscale (s : State) : State :=
  s.setResult 0 (F64.scale s.params.scaleFn (s.block.getST 0) (s.block.getST 1))

/-- FSCALE: the transaction (spec R303, R174). -/
def execFscale (s : State) : Answer := complete 1 (ruleFscale s)

end Sys2Proof.Machine
end

