-- ==== Sys2Proof/Machine/Execute.lean ====
section
/-! DEFINITION. `Execute(e, D)` (spec R175): the instruction rule a (vector, descriptor) names, without the
patch. -/

namespace Sys2Proof.Machine

/-- The rule of an instruction. A primary vector selects neither SEGOVR nor FWAIT (spec R183), whose own
transactions are in Machine/Trap.lean. -/
def ruleOf (i : Instr) (s : State) : State :=
  match i with
  | .faddM32real m => ruleFaddM32real m s
  | .fmulM32real m => ruleFmulM32real m s
  | .fcomM32real m => ruleFcomM32real m s
  | .fcompM32real m => ruleFcompM32real m s
  | .fsubM32real m => ruleFsubM32real m s
  | .fsubrM32real m => ruleFsubrM32real m s
  | .fdivM32real m => ruleFdivM32real m s
  | .fdivrM32real m => ruleFdivrM32real m s
  | .fiaddM32int m => ruleFiaddM32int m s
  | .fimulM32int m => ruleFimulM32int m s
  | .ficomM32int m => ruleFicomM32int m s
  | .ficompM32int m => ruleFicompM32int m s
  | .fisubM32int m => ruleFisubM32int m s
  | .fisubrM32int m => ruleFisubrM32int m s
  | .fidivM32int m => ruleFidivM32int m s
  | .fidivrM32int m => ruleFidivrM32int m s
  | .faddM64real m => ruleFaddM64real m s
  | .fmulM64real m => ruleFmulM64real m s
  | .fcomM64real m => ruleFcomM64real m s
  | .fcompM64real m => ruleFcompM64real m s
  | .fsubM64real m => ruleFsubM64real m s
  | .fsubrM64real m => ruleFsubrM64real m s
  | .fdivM64real m => ruleFdivM64real m s
  | .fdivrM64real m => ruleFdivrM64real m s
  | .fiaddM16int m => ruleFiaddM16int m s
  | .fimulM16int m => ruleFimulM16int m s
  | .ficomM16int m => ruleFicomM16int m s
  | .ficompM16int m => ruleFicompM16int m s
  | .fisubM16int m => ruleFisubM16int m s
  | .fisubrM16int m => ruleFisubrM16int m s
  | .fidivM16int m => ruleFidivM16int m s
  | .fidivrM16int m => ruleFidivrM16int m s
  | .faddStiSt i => ruleFaddStiSt i s
  | .fmulStiSt i => ruleFmulStiSt i s
  | .fsubrStiSt i => ruleFsubrStiSt i s
  | .fsubStiSt i => ruleFsubStiSt i s
  | .fdivrStiSt i => ruleFdivrStiSt i s
  | .fdivStiSt i => ruleFdivStiSt i s
  | .faddpStiSt i => ruleFaddpStiSt i s
  | .fmulpStiSt i => ruleFmulpStiSt i s
  | .fsubrpStiSt i => ruleFsubrpStiSt i s
  | .fsubpStiSt i => ruleFsubpStiSt i s
  | .fdivrpStiSt i => ruleFdivrpStiSt i s
  | .fdivpStiSt i => ruleFdivpStiSt i s
  | .fcompp i => ruleFcompp i s
  | .fldM32real m => ruleFldM32real m s
  | .fstM32real m => ruleFstM32real m s
  | .fstpM32real m => ruleFstpM32real m s
  | .fildM32int m => ruleFildM32int m s
  | .fistM32int m => ruleFistM32int m s
  | .fistpM32int m => ruleFistpM32int m s
  | .fldM80real m => ruleFldM80real m s
  | .fstpM80real m => ruleFstpM80real m s
  | .fldM64real m => ruleFldM64real m s
  | .fstM64real m => ruleFstM64real m s
  | .fstpM64real m => ruleFstpM64real m s
  | .fildM16int m => ruleFildM16int m s
  | .fistM16int m => ruleFistM16int m s
  | .fistpM16int m => ruleFistpM16int m s
  | .fildM64int m => ruleFildM64int m s
  | .fistpM64int m => ruleFistpM64int m s
  | .fldSti i => ruleFldSti i s
  | .fxchSti i => ruleFxchSti i s
  | .fstSti i => ruleFstSti i s
  | .fstpSti i => ruleFstpSti i s
  | .fld1 => ruleFld1 s
  | .fldl2t => ruleFldl2t s
  | .fldl2e => ruleFldl2e s
  | .fldpi => ruleFldpi s
  | .fldlg2 => ruleFldlg2 s
  | .fldln2 => ruleFldln2 s
  | .fldz => ruleFldz s
  | .fchs => ruleFchs s
  | .fabs => ruleFabs s
  | .ftst => ruleFtst s
  | .fxam => ruleFxam s
  | .f2xm1 => ruleF2xm1 s
  | .fyl2x => ruleFyl2x s
  | .fptan => ruleFptan s
  | .fpatan => ruleFpatan s
  | .fxtract => ruleFxtract s
  | .fdecstp => ruleFdecstp s
  | .fincstp => ruleFincstp s
  | .fprem => ruleFprem s
  | .fyl2xp1 => ruleFyl2xp1 s
  | .fsqrt => ruleFsqrt s
  | .frndint => ruleFrndint s
  | .fscale => ruleFscale s
  | .fnop => ruleFnop s
  | .fldenvM14 m => ruleFldenvM14 m s
  | .fldcwM16 m => ruleFldcwM16 m s
  | .fstenvM14 m => ruleFstenvM14 m s
  | .fstcwM16 m => ruleFstcwM16 m s
  | .fstswM16 m => ruleFstswM16 m s
  | .ffreeSti i => ruleFfreeSti i s
  | .finit => ruleFinit s
  | .fclex => ruleFclex s
  | .fstswAx => ruleFstswAx s
  | .segovr _ _ => s
  | .fwait => s
  | .ignoredD8Reg op rm => ruleIgnoredD8Reg op rm s
  | .ignoredDaReg op rm => ruleIgnoredDaReg op rm s
  | .ignoredD9Mem1 m => ruleIgnoredD9Mem1 m s
  | .ignoredD9D1 => ruleIgnoredD9D1 s
  | .ignoredD9D2 => ruleIgnoredD9D2 s
  | .ignoredD9D3 => ruleIgnoredD9D3 s
  | .ignoredD9D4 => ruleIgnoredD9D4 s
  | .ignoredD9D5 => ruleIgnoredD9D5 s
  | .ignoredD9D6 => ruleIgnoredD9D6 s
  | .ignoredD9D7 => ruleIgnoredD9D7 s
  | .ignoredD9Reg3 i => ruleIgnoredD9Reg3 i s
  | .ignoredD9E2 => ruleIgnoredD9E2 s
  | .ignoredD9E3 => ruleIgnoredD9E3 s
  | .ignoredD9E6 => ruleIgnoredD9E6 s
  | .ignoredD9E7 => ruleIgnoredD9E7 s
  | .ignoredD9Ef => ruleIgnoredD9Ef s
  | .ignoredD9F5 => ruleIgnoredD9F5 s
  | .ignoredD9Fb => ruleIgnoredD9Fb s
  | .ignoredD9Fe => ruleIgnoredD9Fe s
  | .ignoredD9Ff => ruleIgnoredD9Ff s
  | .ignoredDbMem1 m => ruleIgnoredDbMem1 m s
  | .ignoredDbMem4 m => ruleIgnoredDbMem4 m s
  | .ignoredDbMem6 m => ruleIgnoredDbMem6 m s
  | .ignoredDbReg op rm => ruleIgnoredDbReg op rm s
  | .ignoredDcReg2 i => ruleIgnoredDcReg2 i s
  | .ignoredDcReg3 i => ruleIgnoredDcReg3 i s
  | .ignoredDeReg2 i => ruleIgnoredDeReg2 i s
  | .ignoredDdMem1 m => ruleIgnoredDdMem1 m s
  | .ignoredDdMem4 m => ruleIgnoredDdMem4 m s
  | .ignoredDdMem5 m => ruleIgnoredDdMem5 m s
  | .ignoredDdMem6 m => ruleIgnoredDdMem6 m s
  | .ignoredDdReg op rm => ruleIgnoredDdReg op rm s
  | .ignoredDfMem1 m => ruleIgnoredDfMem1 m s
  | .ignoredDfMem4 m => ruleIgnoredDfMem4 m s
  | .ignoredDfMem6 m => ruleIgnoredDfMem6 m s
  | .ignoredDfReg op rm => ruleIgnoredDfReg op rm s

/-- `Execute(e, D)` (spec R175). -/
def execute (e : Esc) (d : Descriptor) (s : State) : State := ruleOf (instrOf e d) s

end Sys2Proof.Machine
end

