-- ==== Sys2Proof/Machine/Trap.lean ====
section
/-! DEFINITION. The transactions of the SEGOVR and FWAIT vectors (spec R176, R178). -/

namespace Sys2Proof.Machine

/-- `Override() <- s` (spec R11, R176). -/
def State.withOverride (s : State) (r : SegReg) : State :=
  { s with guest := { s.guest with override := some r } }

/-- SEGOVR: the override is set, the primary vector the byte selects is executed, and the patch adds one more
(spec R176). -/
def execSegovr (se : Byte) (d : Descriptor) (s : State) : Answer :=
  complete (1 + d.skip) (execute (seEsc se) d (s.withOverride (s.params.segCodeMap (seCode se))))

/-- FWAIT: `Patch(0)` (spec R178). -/
def execFwait (s : State) : Answer := complete 0 s

end Sys2Proof.Machine
end

