-- ==== Sys2Proof/Machine/Dispatch.lean ====
section
/-! DEFINITION. One arm per instruction. `exec i s` is the transaction of `i` (spec R174, R176, R178) on a state
at trap entry: the return frame stands at SS:SP and the operand has been decoded. -/

namespace Sys2Proof.Machine

def exec (i : Instr) (s : State) : Host.Outcome State Fault Refusal :=
  match i with
  | .faddM32real m => Sys2Proof.Machine.execFaddM32real m s
  | .fmulM32real m => Sys2Proof.Machine.execFmulM32real m s
  | .fcomM32real m => Sys2Proof.Machine.execFcomM32real m s
  | .fcompM32real m => Sys2Proof.Machine.execFcompM32real m s
  | .fsubM32real m => Sys2Proof.Machine.execFsubM32real m s
  | .fsubrM32real m => Sys2Proof.Machine.execFsubrM32real m s
  | .fdivM32real m => Sys2Proof.Machine.execFdivM32real m s
  | .fdivrM32real m => Sys2Proof.Machine.execFdivrM32real m s
  | .fiaddM32int m => Sys2Proof.Machine.execFiaddM32int m s
  | .fimulM32int m => Sys2Proof.Machine.execFimulM32int m s
  | .ficomM32int m => Sys2Proof.Machine.execFicomM32int m s
  | .ficompM32int m => Sys2Proof.Machine.execFicompM32int m s
  | .fisubM32int m => Sys2Proof.Machine.execFisubM32int m s
  | .fisubrM32int m => Sys2Proof.Machine.execFisubrM32int m s
  | .fidivM32int m => Sys2Proof.Machine.execFidivM32int m s
  | .fidivrM32int m => Sys2Proof.Machine.execFidivrM32int m s
  | .faddM64real m => Sys2Proof.Machine.execFaddM64real m s
  | .fmulM64real m => Sys2Proof.Machine.execFmulM64real m s
  | .fcomM64real m => Sys2Proof.Machine.execFcomM64real m s
  | .fcompM64real m => Sys2Proof.Machine.execFcompM64real m s
  | .fsubM64real m => Sys2Proof.Machine.execFsubM64real m s
  | .fsubrM64real m => Sys2Proof.Machine.execFsubrM64real m s
  | .fdivM64real m => Sys2Proof.Machine.execFdivM64real m s
  | .fdivrM64real m => Sys2Proof.Machine.execFdivrM64real m s
  | .fiaddM16int m => Sys2Proof.Machine.execFiaddM16int m s
  | .fimulM16int m => Sys2Proof.Machine.execFimulM16int m s
  | .ficomM16int m => Sys2Proof.Machine.execFicomM16int m s
  | .ficompM16int m => Sys2Proof.Machine.execFicompM16int m s
  | .fisubM16int m => Sys2Proof.Machine.execFisubM16int m s
  | .fisubrM16int m => Sys2Proof.Machine.execFisubrM16int m s
  | .fidivM16int m => Sys2Proof.Machine.execFidivM16int m s
  | .fidivrM16int m => Sys2Proof.Machine.execFidivrM16int m s
  | .faddStiSt j => Sys2Proof.Machine.execFaddStiSt j s
  | .fmulStiSt j => Sys2Proof.Machine.execFmulStiSt j s
  | .fsubrStiSt j => Sys2Proof.Machine.execFsubrStiSt j s
  | .fsubStiSt j => Sys2Proof.Machine.execFsubStiSt j s
  | .fdivrStiSt j => Sys2Proof.Machine.execFdivrStiSt j s
  | .fdivStiSt j => Sys2Proof.Machine.execFdivStiSt j s
  | .faddpStiSt j => Sys2Proof.Machine.execFaddpStiSt j s
  | .fmulpStiSt j => Sys2Proof.Machine.execFmulpStiSt j s
  | .fsubrpStiSt j => Sys2Proof.Machine.execFsubrpStiSt j s
  | .fsubpStiSt j => Sys2Proof.Machine.execFsubpStiSt j s
  | .fdivrpStiSt j => Sys2Proof.Machine.execFdivrpStiSt j s
  | .fdivpStiSt j => Sys2Proof.Machine.execFdivpStiSt j s
  | .fcompp j => Sys2Proof.Machine.execFcompp j s
  | .fldM32real m => Sys2Proof.Machine.execFldM32real m s
  | .fstM32real m => Sys2Proof.Machine.execFstM32real m s
  | .fstpM32real m => Sys2Proof.Machine.execFstpM32real m s
  | .fildM32int m => Sys2Proof.Machine.execFildM32int m s
  | .fistM32int m => Sys2Proof.Machine.execFistM32int m s
  | .fistpM32int m => Sys2Proof.Machine.execFistpM32int m s
  | .fldM80real m => Sys2Proof.Machine.execFldM80real m s
  | .fstpM80real m => Sys2Proof.Machine.execFstpM80real m s
  | .fldM64real m => Sys2Proof.Machine.execFldM64real m s
  | .fstM64real m => Sys2Proof.Machine.execFstM64real m s
  | .fstpM64real m => Sys2Proof.Machine.execFstpM64real m s
  | .fildM16int m => Sys2Proof.Machine.execFildM16int m s
  | .fistM16int m => Sys2Proof.Machine.execFistM16int m s
  | .fistpM16int m => Sys2Proof.Machine.execFistpM16int m s
  | .fildM64int m => Sys2Proof.Machine.execFildM64int m s
  | .fistpM64int m => Sys2Proof.Machine.execFistpM64int m s
  | .fldSti j => Sys2Proof.Machine.execFldSti j s
  | .fxchSti j => Sys2Proof.Machine.execFxchSti j s
  | .fstSti j => Sys2Proof.Machine.execFstSti j s
  | .fstpSti j => Sys2Proof.Machine.execFstpSti j s
  | .fld1 => Sys2Proof.Machine.execFld1 s
  | .fldl2t => Sys2Proof.Machine.execFldl2t s
  | .fldl2e => Sys2Proof.Machine.execFldl2e s
  | .fldpi => Sys2Proof.Machine.execFldpi s
  | .fldlg2 => Sys2Proof.Machine.execFldlg2 s
  | .fldln2 => Sys2Proof.Machine.execFldln2 s
  | .fldz => Sys2Proof.Machine.execFldz s
  | .fchs => Sys2Proof.Machine.execFchs s
  | .fabs => Sys2Proof.Machine.execFabs s
  | .ftst => Sys2Proof.Machine.execFtst s
  | .fxam => Sys2Proof.Machine.execFxam s
  | .f2xm1 => Sys2Proof.Machine.execF2xm1 s
  | .fyl2x => Sys2Proof.Machine.execFyl2x s
  | .fptan => Sys2Proof.Machine.execFptan s
  | .fpatan => Sys2Proof.Machine.execFpatan s
  | .fxtract => Sys2Proof.Machine.execFxtract s
  | .fdecstp => Sys2Proof.Machine.execFdecstp s
  | .fincstp => Sys2Proof.Machine.execFincstp s
  | .fprem => Sys2Proof.Machine.execFprem s
  | .fyl2xp1 => Sys2Proof.Machine.execFyl2xp1 s
  | .fsqrt => Sys2Proof.Machine.execFsqrt s
  | .frndint => Sys2Proof.Machine.execFrndint s
  | .fscale => Sys2Proof.Machine.execFscale s
  | .fnop => Sys2Proof.Machine.execFnop s
  | .fldenvM14 m => Sys2Proof.Machine.execFldenvM14 m s
  | .fldcwM16 m => Sys2Proof.Machine.execFldcwM16 m s
  | .fstenvM14 m => Sys2Proof.Machine.execFstenvM14 m s
  | .fstcwM16 m => Sys2Proof.Machine.execFstcwM16 m s
  | .fstswM16 m => Sys2Proof.Machine.execFstswM16 m s
  | .ffreeSti j => Sys2Proof.Machine.execFfreeSti j s
  | .finit => Sys2Proof.Machine.execFinit s
  | .fclex => Sys2Proof.Machine.execFclex s
  | .fstswAx => Sys2Proof.Machine.execFstswAx s
  | .segovr se d => Sys2Proof.Machine.execSegovr se d s
  | .fwait => Sys2Proof.Machine.execFwait s
  | .ignoredD8Reg op rm => Sys2Proof.Machine.execIgnoredD8Reg op rm s
  | .ignoredDaReg op rm => Sys2Proof.Machine.execIgnoredDaReg op rm s
  | .ignoredD9Mem1 m => Sys2Proof.Machine.execIgnoredD9Mem1 m s
  | .ignoredD9D1 => Sys2Proof.Machine.execIgnoredD9D1 s
  | .ignoredD9D2 => Sys2Proof.Machine.execIgnoredD9D2 s
  | .ignoredD9D3 => Sys2Proof.Machine.execIgnoredD9D3 s
  | .ignoredD9D4 => Sys2Proof.Machine.execIgnoredD9D4 s
  | .ignoredD9D5 => Sys2Proof.Machine.execIgnoredD9D5 s
  | .ignoredD9D6 => Sys2Proof.Machine.execIgnoredD9D6 s
  | .ignoredD9D7 => Sys2Proof.Machine.execIgnoredD9D7 s
  | .ignoredD9Reg3 j => Sys2Proof.Machine.execIgnoredD9Reg3 j s
  | .ignoredD9E2 => Sys2Proof.Machine.execIgnoredD9E2 s
  | .ignoredD9E3 => Sys2Proof.Machine.execIgnoredD9E3 s
  | .ignoredD9E6 => Sys2Proof.Machine.execIgnoredD9E6 s
  | .ignoredD9E7 => Sys2Proof.Machine.execIgnoredD9E7 s
  | .ignoredD9Ef => Sys2Proof.Machine.execIgnoredD9Ef s
  | .ignoredD9F5 => Sys2Proof.Machine.execIgnoredD9F5 s
  | .ignoredD9Fb => Sys2Proof.Machine.execIgnoredD9Fb s
  | .ignoredD9Fe => Sys2Proof.Machine.execIgnoredD9Fe s
  | .ignoredD9Ff => Sys2Proof.Machine.execIgnoredD9Ff s
  | .ignoredDbMem1 m => Sys2Proof.Machine.execIgnoredDbMem1 m s
  | .ignoredDbMem4 m => Sys2Proof.Machine.execIgnoredDbMem4 m s
  | .ignoredDbMem6 m => Sys2Proof.Machine.execIgnoredDbMem6 m s
  | .ignoredDbReg op rm => Sys2Proof.Machine.execIgnoredDbReg op rm s
  | .ignoredDcReg2 j => Sys2Proof.Machine.execIgnoredDcReg2 j s
  | .ignoredDcReg3 j => Sys2Proof.Machine.execIgnoredDcReg3 j s
  | .ignoredDeReg2 j => Sys2Proof.Machine.execIgnoredDeReg2 j s
  | .ignoredDdMem1 m => Sys2Proof.Machine.execIgnoredDdMem1 m s
  | .ignoredDdMem4 m => Sys2Proof.Machine.execIgnoredDdMem4 m s
  | .ignoredDdMem5 m => Sys2Proof.Machine.execIgnoredDdMem5 m s
  | .ignoredDdMem6 m => Sys2Proof.Machine.execIgnoredDdMem6 m s
  | .ignoredDdReg op rm => Sys2Proof.Machine.execIgnoredDdReg op rm s
  | .ignoredDfMem1 m => Sys2Proof.Machine.execIgnoredDfMem1 m s
  | .ignoredDfMem4 m => Sys2Proof.Machine.execIgnoredDfMem4 m s
  | .ignoredDfMem6 m => Sys2Proof.Machine.execIgnoredDfMem6 m s
  | .ignoredDfReg op rm => Sys2Proof.Machine.execIgnoredDfReg op rm s

end Sys2Proof.Machine
end

