-- ==== Sys2Proof/Machine/Fetch.lean ====
section
/-! DEFINITION. What the collaborator does around a transaction (spec R170, R173, R355, R356): it takes the trap at
CS:IP, the block fetches the operand bytes at the return address, and it returns. -/

namespace Sys2Proof.Machine

/-- Byte `k` from the guest's CS:IP. DESIGN CHOICE: the collaborator's own fetch reads memory as it now stands, so it
sees every earlier store; the spec leaves that to the collaborator (spec R76; assumption log 26). -/
def State.codeByte (s : State) (k : Nat) : Byte := s.read8 s.guest.cs (s.guest.ip + BitVec.ofNat 16 k)

/-- Which of the ten traps the guest takes at CS:IP (spec R90, R171). Anything else is not this block's
(assumption log 15). -/
def State.trapAt (s : State) : Except Refusal TrapVector :=
  if s.codeByte 0 = intOpcode then
    (match TrapVector.ofNumber s.params.vecBase (s.codeByte 1) with
     | some v => .ok v
     | none => .error (.foreignVector (s.codeByte 1)))
  else .error (.guestInstruction (s.codeByte 0))

/-- Byte `k` from the return address, as the block reads it (spec R95, R176). -/
def State.operandByte (s : State) (k : Nat) : Byte := s.read8 s.retCS (s.retIP + BitVec.ofNat 16 k)

/-- The instruction of a transaction, decoded against the return address (spec R174, R176). The bytes its form does
not use are read too, which has no effect (spec R69; assumption log 18). -/
def State.fetched (s : State) (v : TrapVector) : Instr :=
  decodeTrap v (s.operandByte 0) (s.operandByte 1) (s.operandByte 2) (s.operandByte 3)

/-- Trap return after a transaction that completed (spec R173). -/
def resume : Answer → Answer
  | .next t => .next t.trapReturn
  | .fault f => .fault f
  | .refused r => .refused r

/-- One trap from entry to return. -/
def State.runTrap (s : State) (v : TrapVector) : Answer :=
  resume (exec (s.trapEntry.fetched v) s.trapEntry)

/-- Bytes laid into memory at ascending offsets (spec R64). -/
def State.placeBytes (s : State) (seg off : Word) : List Byte → State
  | [] => s
  | b :: rest => (s.write8 seg off b).placeBytes seg (off + 1) rest

end Sys2Proof.Machine
end

