-- ==== Sys2Proof/Machine/Step.lean ====
section
/-! DEFINITION. One step: the guest takes the trap at CS:IP and resumes after it (assumption log 1). -/

namespace Sys2Proof.Machine

/-- One step of the machine. A trap taken while a transaction of the context is in progress is refused (spec
R357; assumption log 14). -/
def step (s : State) : Answer :=
  if s.inTransaction then .refused .nestedTrap
  else match s.trapAt with
    | .error r => .refused r
    | .ok v => s.runTrap v

/-- `s` with an instruction of the opcode table stored at CS:IP, where `step` takes its next trap, and no
transaction in progress (assumption logs 16 and 19). -/
def State.withFetchWord (s : State) (nbits w : Nat) : State :=
  { s.placeBytes s.guest.cs s.guest.ip (tableBytes s.params.vecBase nbits w) with inTransaction := false }

end Sys2Proof.Machine
end

