-- ==== Sys2Proof/Safety.lean ====
section
/-! DEFINITION. The terms claims use: which bytes an access covers, what a transaction leaves alone, and what a
result, a slot and a store hold. -/

namespace Sys2Proof

/-- The instruction whose rule runs: the one the segment-override byte selects, or the instruction itself (spec
R176, R183). -/
def Instr.selected : Instr → Instr
  | .segovr se d => instrOf (seEsc se) d
  | i => i

/-- The data bytes an instruction stores, at its memory operand (spec R63, the data-write rows). -/
def Instr.ownWrite : Instr → Option (MemOperand × Nat)
  | .fstM32real m => some (m, 4)
  | .fstpM32real m => some (m, 4)
  | .fistM32int m => some (m, 4)
  | .fistpM32int m => some (m, 4)
  | .fstM64real m => some (m, 8)
  | .fstpM64real m => some (m, 8)
  | .fistpM64int m => some (m, 8)
  | .fstpM80real m => some (m, 10)
  | .fistM16int m => some (m, 2)
  | .fistpM16int m => some (m, 2)
  | .fstcwM16 m => some (m, 2)
  | .fstswM16 m => some (m, 2)
  | .fstenvM14 m => some (m, 14)
  | _ => none

/-- The data bytes the transaction of an instruction stores (spec R63, R176). -/
def Instr.dataWrite (i : Instr) : Option (MemOperand × Nat) := i.selected.ownWrite

/-- The rows of the table with no state change of their own, "(ignored)" (spec R340). -/
def Instr.isIgnored : Instr → Bool
  | .ignoredD8Reg _ _ => true
  | .ignoredDaReg _ _ => true
  | .ignoredD9Mem1 _ => true
  | .ignoredD9D1 => true
  | .ignoredD9D2 => true
  | .ignoredD9D3 => true
  | .ignoredD9D4 => true
  | .ignoredD9D5 => true
  | .ignoredD9D6 => true
  | .ignoredD9D7 => true
  | .ignoredD9Reg3 _ => true
  | .ignoredD9E2 => true
  | .ignoredD9E3 => true
  | .ignoredD9E6 => true
  | .ignoredD9E7 => true
  | .ignoredD9Ef => true
  | .ignoredD9F5 => true
  | .ignoredD9Fb => true
  | .ignoredD9Fe => true
  | .ignoredD9Ff => true
  | .ignoredDbMem1 _ => true
  | .ignoredDbMem4 _ => true
  | .ignoredDbMem6 _ => true
  | .ignoredDbReg _ _ => true
  | .ignoredDcReg2 _ => true
  | .ignoredDcReg3 _ => true
  | .ignoredDeReg2 _ => true
  | .ignoredDdMem1 _ => true
  | .ignoredDdMem4 _ => true
  | .ignoredDdMem5 _ => true
  | .ignoredDdMem6 _ => true
  | .ignoredDdReg _ _ => true
  | .ignoredDfMem1 _ => true
  | .ignoredDfMem4 _ => true
  | .ignoredDfMem6 _ => true
  | .ignoredDfReg _ _ => true
  | _ => false

/-- Spec R340's list of the ignored combinations, by vector, mode, op and rm; the DD register forms 0, 2 and 3 belong
to it only under `ddRegForms = ignored`. -/
def ignoredCombination (e : Esc) (op : BitVec 3) : Operand → Bool
  | .mem _ =>
    match e with
    | .d9 => op == 1
    | .db => op == 1 || op == 4 || op == 6
    | .dd => op == 1 || op == 4 || op == 5 || op == 6
    | .df => op == 1 || op == 4 || op == 6
    | _ => false
  | .reg rm =>
    match e with
    | .d8 => true
    | .d9 => (op == 2 && rm != 0) || op == 3 || (op == 4 && (rm == 2 || rm == 3 || rm == 6 || rm == 7)) ||
        (op == 5 && rm == 7) || (op == 6 && rm == 5) || (op == 7 && (rm == 3 || rm == 6 || rm == 7))
    | .da => true
    | .db => !(op == 4 && (rm == 2 || rm == 3))
    | .dc => op == 2 || op == 3
    | .dd => op == 1 || op == 4 || op == 5 || op == 6 || op == 7
    | .de => op == 2
    | .df => !(op == 4 && rm == 0)

namespace Machine

/-- The state the instruction rule of `i` runs in: SEGOVR sets the override first (spec R176). -/
def State.ruleEntry (s : State) : Instr → State
  | .segovr se _ => s.withOverride (s.params.segCodeMap (seCode se))
  | _ => s

/-- `a` is one of the `n` bytes of an access at (seg, off) (spec R64). -/
def Touches (seg off : Word) (n a : Nat) : Prop := ∃ k, k < n ∧ a = linear seg (off + BitVec.ofNat 16 k)

/-- `a` is a byte of the RetIP word at SS:SP (spec R172). -/
def State.RetIPByte (s : State) (a : Nat) : Prop := Touches s.guest.ss s.guest.sp 2 a

/-- `a` is a byte the transaction of `i` stores as data: the effective address is that of the state the rule runs
in. -/
def State.StoresAt (s : State) (i : Instr) (a : Nat) : Prop :=
  match i.dataWrite with
  | none => False
  | some (m, n) => Touches ((s.ruleEntry i).eaSeg m) ((s.ruleEntry i).eaOff m) n a

/-- `v` is a pattern of the result `r`: the value itself, or any NaN for a NaN (spec R132). -/
def Gives (r : Option Double) (v : Double) : Prop :=
  match r with
  | some w => v = w
  | none => F64.isNaN v = true

/-- The bits of a memory operand, little-endian from its effective address on: bits 8 k to 8 k + 7 are the byte at
u16(off + k) (spec R64, R65). -/
def State.OperandBits (s : State) (m : MemOperand) {w : Nat} (b : BitVec w) : Prop :=
  ∀ k, 8 * k < w → b.extractLsb' (8 * k) 8 = s.read8 (s.eaSeg m) (s.eaOff m + BitVec.ofNat 16 k)

/-- Every slot but those named keeps its value and its tag. -/
def Block.SlotsKept (b c : Block) (but : List (BitVec 3)) : Prop :=
  ∀ p, p ∉ but → c.reg p = b.reg p ∧ c.tag p = b.tag p

/-- The collaborator's registers, the parameters and the transaction mark are as before. -/
def State.OutsideKept (s t : State) : Prop :=
  t.guest = s.guest ∧ t.params = s.params ∧ t.inTransaction = s.inTransaction

/-- Memory after a transaction that stores no data: RetIP is advanced by `k` and every byte outside its word reads
as before (spec R180, R182). -/
def State.OnlyPatched (s t : State) (k : Nat) : Prop :=
  t.retIP = s.retIP + BitVec.ofNat 16 k ∧ ∀ a, ¬ s.RetIPByte a → t.mem.read a = s.mem.read a

/-- Memory after a transaction that stores the `n` bytes of `v` at the operand `m` (spec R64, R65, R180): outside
the RetIP word the stored bytes hold `v`, little-endian, and every other byte reads as before; RetIP is advanced
when the two do not overlap. -/
def State.StoredAndPatched (s t : State) (m : MemOperand) (n v k : Nat) : Prop :=
  (∀ j, j < n → ¬ s.RetIPByte (linear (s.eaSeg m) (s.eaOff m + BitVec.ofNat 16 j)) →
    t.mem.read (linear (s.eaSeg m) (s.eaOff m + BitVec.ofNat 16 j)) = BitVec.ofNat 8 (v / 256 ^ j)) ∧
  (∀ a, ¬ s.RetIPByte a → ¬ Touches (s.eaSeg m) (s.eaOff m) n a → t.mem.read a = s.mem.read a) ∧
  ((∀ a, s.RetIPByte a → ¬ Touches (s.eaSeg m) (s.eaOff m) n a) → t.retIP = s.retIP + BitVec.ofNat 16 k)

/-- A transaction that writes the result `r` to the slot `p` and changes no other slot; SW becomes `sw`. -/
def State.WritesSlot (s t : State) (p : BitVec 3) (r : Option Double) (sw : Word) : Prop :=
  Gives r (t.block.reg p) ∧ t.block.tag p = tagOf (t.block.reg p) ∧ s.block.SlotsKept t.block [p] ∧
    t.block.sw = sw ∧ t.block.cw = s.block.cw

/-- The tag of every slot is empty or that of its value (spec R41). -/
def Block.TagsDerived (b : Block) : Prop := ∀ p, b.tag p = .empty ∨ b.tag p = tagOf (b.reg p)

/-- The states a step starts from and leaves: canonical memory, no transaction in progress, and no override left
over (spec R44, R357). -/
def State.Inv (s : State) : Prop :=
  s.mem.wf = true ∧ s.inTransaction = false ∧ s.guest.override = none

end Machine

end Sys2Proof
end

