-- ==== Sys2Proof/Certificates/Slice0/Obligations.lean ====
section
/-! DEFINITION. The statements for the provers, in the order of OBLIGATIONS.json: encoding, the trap cycle, the whole
machine, the register stack and memory, every instruction, and the numerics. -/

open Sys2Proof Sys2Proof.Machine

/-! ### Encoding -/

/-- Byte sequences written out from the formats and the opcode map decode to the instructions they stand for (spec
R90, R92, R106, R107). -/
def Obligations.DecodesSpecWords : Prop :=
  decode 0x34 [0xCD, 0x34, 0x06, 0x00, 0x01] = .ok (.faddM32real (.direct 0x0100), []) ∧
  decode 0x34 [0xCD, 0x3A, 0xE9] = .ok (.fsubpStiSt 1, []) ∧
  decode 0x34 [0xCD, 0x38, 0xE1] = .ok (.fsubrStiSt 1, []) ∧
  decode 0x34 [0xCD, 0x39, 0x5E, 0xF8] = .ok (.fstpM64real (.based 6 (.byte 0xF8)), []) ∧
  decode 0x34 [0xCD, 0x35, 0xFA] = .ok (.fsqrt, []) ∧
  decode 0x34 [0xCD, 0x37, 0xE3] = .ok (.finit, []) ∧
  decode 0x34 [0xCD, 0x35, 0x37] = .ok (.fstenvM14 (.based 7 .none), []) ∧
  decode 0x34 [0xCD, 0x3B, 0xE0] = .ok (.fstswAx, []) ∧
  decode 0x34 [0xCD, 0x37, 0x8F, 0x10, 0x00] = .ok (.ignoredDbMem1 (.based 7 (.word 0x0010)), []) ∧
  decode 0x34 [0xCD, 0x3C, 0xDF, 0x42, 0x04] = .ok (.segovr 0xDF ⟨0, .mem (.based 2 (.byte 0x04))⟩, []) ∧
  decode 0x34 [0xCD, 0x3D] = .ok (.fwait, [])

/-- Decoding the encoding of a well-formed instruction gives it back, whatever follows it, under every vector base
(spec R90 to R107); for a base above 0xF6 the vector numbers are those of assumption log 25. -/
def Obligations.EncodeDecode : Prop :=
  ∀ (base : Byte) (i : Instr) (rest : List Byte), i.wellFormed = true →
    decode base (encode base i ++ rest) = .ok (i, rest)

/-- Every operand byte sequence decodes to a well-formed instruction, and encoding it gives back the bytes the skip
count covers (spec R103, R104, R109): no bit of an encoding is dropped. For a base above 0xF6 the vector number is that
of assumption log 25. -/
def Obligations.DecodeEncode : Prop :=
  ∀ (base : Byte) (v : TrapVector) (b0 b1 b2 b3 : Byte),
    (decodeTrap v b0 b1 b2 b3).wellFormed = true ∧
    encode base (decodeTrap v b0 b1 b2 b3) =
      0xCD :: v.number base :: [b0, b1, b2, b3].take (decodeTrap v b0 b1 b2 b3).skipTotal

/-- The fields of the descriptor byte, the register operand of mod 3 and the skip count (spec R96, R97, R104). -/
def Obligations.DescriptorFields : Prop :=
  ∀ m b1 b2 : Byte,
    (decodeDescriptor m b1 b2).op = m.extractLsb' 3 3 ∧
    (m.extractLsb' 6 2 = 3#2 → (decodeDescriptor m b1 b2).operand = .reg (m.extractLsb' 0 3)) ∧
    (m.extractLsb' 6 2 ≠ 3#2 → ∃ o, (decodeDescriptor m b1 b2).operand = .mem o) ∧
    (decodeDescriptor m b1 b2).skip =
      (if m.extractLsb' 6 2 = 0#2 then (if m.extractLsb' 0 3 = 6#3 then 3 else 1)
       else if m.extractLsb' 6 2 = 1#2 then 2
       else if m.extractLsb' 6 2 = 2#2 then 3
       else 1)

/-- The offset of a memory operand: the direct displacement, or the base of the pairing table plus the displacement
of mod, modulo 2^16 (spec R98, R99, R100, R102). -/
def Obligations.EffectiveOffset : Prop :=
  ∀ (s : State) (m b1 b2 : Byte) (o : MemOperand), (decodeDescriptor m b1 b2).operand = .mem o →
    s.eaOff o =
      if m.extractLsb' 6 2 = 0#2 ∧ m.extractLsb' 0 3 = 6#3 then BitVec.ofNat 16 (b1.toNat + 256 * b2.toNat)
      else
        (if m.extractLsb' 0 3 = 0#3 then s.guest.bx + s.guest.si
         else if m.extractLsb' 0 3 = 1#3 then s.guest.bx + s.guest.di
         else if m.extractLsb' 0 3 = 2#3 then s.guest.bp + s.guest.si
         else if m.extractLsb' 0 3 = 3#3 then s.guest.bp + s.guest.di
         else if m.extractLsb' 0 3 = 4#3 then s.guest.si
         else if m.extractLsb' 0 3 = 5#3 then s.guest.di
         else if m.extractLsb' 0 3 = 6#3 then s.guest.bp
         else s.guest.bx) +
        (if m.extractLsb' 6 2 = 0#2 then 0
         else if m.extractLsb' 6 2 = 1#2 then b1.signExtend 16
         else BitVec.ofNat 16 (b1.toNat + 256 * b2.toNat))

/-- The segment of a memory operand: an active override wins, else SS for rm 2, 3 and 6 (which includes the direct
case), else DS (spec R101). -/
def Obligations.SegmentResolution : Prop :=
  ∀ (s : State) (m b1 b2 : Byte) (o : MemOperand), (decodeDescriptor m b1 b2).operand = .mem o →
    s.eaSeg o =
      match s.guest.override with
      | some .es => s.guest.es
      | some .cs => s.guest.cs
      | some .ss => s.guest.ss
      | some .ds => s.guest.ds
      | none =>
        if m.extractLsb' 0 3 = 2#3 ∨ m.extractLsb' 0 3 = 3#3 ∨ m.extractLsb' 0 3 = 6#3 then s.guest.ss
        else s.guest.ds

/-- The ten vectors: vecBase + e for D8 + e, then SEGOVR and FWAIT, vecBase 0x34 unless a parameter says otherwise;
every other number is not this block's (spec R171, R110). Where vecBase is above 0xF6 the sums are taken modulo 2^8,
which is the model's choice and no rule of the spec (assumption log 25, a DESIGN CHOICE). -/
def Obligations.TrapVectors : Prop :=
  Params.default.vecBase = 0x34 ∧
  ∀ base vv : Byte, TrapVector.ofNumber base vv =
    if vv = base then some (.primary .d8)
    else if vv = base + 1 then some (.primary .d9)
    else if vv = base + 2 then some (.primary .da)
    else if vv = base + 3 then some (.primary .db)
    else if vv = base + 4 then some (.primary .dc)
    else if vv = base + 5 then some (.primary .dd)
    else if vv = base + 6 then some (.primary .de)
    else if vv = base + 7 then some (.primary .df)
    else if vv = base + 8 then some .segovr
    else if vv = base + 9 then some .fwait
    else none

/-! ### The trap cycle -/

/-- A step at a trap sequence runs the instruction its bytes decode to, on the state after trap entry, and returns
from the trap (spec R174, R176, R178; the entry and the return are assumption log 1's). The operand bytes are those
at the return address, and the decoder of byte sequences reads the same instruction from them. -/
def Obligations.StepRunsDecoded : Prop :=
  ∀ (s : State) (v : TrapVector), s.inTransaction = false →
    s.read8 s.guest.cs s.guest.ip = 0xCD →
    TrapVector.ofNumber s.params.vecBase (s.read8 s.guest.cs (s.guest.ip + 1)) = some v →
    let t := s.trapEntry
    let b := fun k : Nat => t.read8 t.retCS (t.retIP + BitVec.ofNat 16 k)
    let i := decodeTrap v (b 0) (b 1) (b 2) (b 3)
    i.wellFormed = true ∧
    (∃ rest, decode s.params.vecBase
      [0xCD, s.read8 s.guest.cs (s.guest.ip + 1), b 0, b 1, b 2, b 3] = .ok (i, rest)) ∧
    step s =
      match exec i t with
      | .next u => .next u.trapReturn
      | .fault f => .fault f
      | .refused r => .refused r

/-- When a step is refused: a nested entry (spec R357), a guest byte that begins no trap sequence (spec R4) and a
vector outside the ten (spec R110); assumption logs 14 and 15. -/
def Obligations.StepRefusals : Prop :=
  ∀ s : State,
    (s.inTransaction = true → step s = .refused .nestedTrap) ∧
    (s.inTransaction = false → s.read8 s.guest.cs s.guest.ip ≠ 0xCD →
      step s = .refused (.guestInstruction (s.read8 s.guest.cs s.guest.ip))) ∧
    (s.inTransaction = false → s.read8 s.guest.cs s.guest.ip = 0xCD →
      TrapVector.ofNumber s.params.vecBase (s.read8 s.guest.cs (s.guest.ip + 1)) = none →
      step s = .refused (.foreignVector (s.read8 s.guest.cs (s.guest.ip + 1))))

/-- Trap entry leaves the frame the block relies on and clears IF and TF; trap return resumes at RetCS:RetIP, restores
FLAGS and clears the override (spec R170, R172, R173, R355, R356; assumption logs 1 and 2). -/
def Obligations.TrapEntryAndReturn : Prop :=
  (∀ s : State,
    s.trapEntry.retIP = s.guest.ip + 2 ∧ s.trapEntry.retCS = s.guest.cs ∧
    s.trapEntry.read16 s.guest.ss (s.trapEntry.guest.sp + 4) = s.guest.flags ∧
    s.trapEntry.guest =
      { s.guest with sp := s.guest.sp - 6, flags := s.guest.flags &&& ~~~(0x0300 : Word) } ∧
    s.trapEntry.block = s.block ∧ s.trapEntry.params = s.params ∧ s.trapEntry.inTransaction = true ∧
    ∀ a, ¬ Touches s.guest.ss (s.guest.sp - 6) 6 a → s.trapEntry.mem.read a = s.mem.read a) ∧
  (∀ t : State,
    t.trapReturn.guest =
      { t.guest with ip := t.retIP, cs := t.retCS, flags := t.read16 t.guest.ss (t.guest.sp + 4),
                     sp := t.guest.sp + 6, override := none } ∧
    t.trapReturn.block = t.block ∧ t.trapReturn.mem = t.mem ∧ t.trapReturn.params = t.params ∧
    t.trapReturn.inTransaction = false)

/-- The guest resumes past the trap sequence, 2 + skipTotal bytes after its `CD`, with CS, FLAGS and SP as before,
when the transaction's data store spares the return frame (spec R179; the entry and the return are assumption log
1's). -/
def Obligations.GuestAdvance : Prop :=
  ∀ (s : State) (v : TrapVector), s.inTransaction = false →
    s.read8 s.guest.cs s.guest.ip = 0xCD →
    TrapVector.ofNumber s.params.vecBase (s.read8 s.guest.cs (s.guest.ip + 1)) = some v →
    (∀ a, Touches s.guest.ss (s.guest.sp - 6) 6 a → ¬ s.trapEntry.StoresAt (s.trapEntry.fetched v) a) →
    ∃ u, step s = .next u ∧
      u.guest.ip = BitVec.ofNat 16 (s.guest.ip.toNat + 2 + (s.trapEntry.fetched v).skipTotal) ∧
      u.guest.cs = s.guest.cs ∧ u.guest.flags = s.guest.flags ∧ u.guest.sp = s.guest.sp

/-- The patch reads RetIP again, adds modulo 2^16, writes it back and writes nothing else; a store of the transaction
over the frame word is the value it advances (spec R180, R377). -/
def Obligations.PatchAdvances : Prop :=
  (∀ (s : State) (k : Nat),
    (s.patch k).retIP = BitVec.ofNat 16 (s.retIP.toNat + k) ∧ (s.patch k).retCS = s.retCS ∧
    ∀ a, ¬ s.RetIPByte a → (s.patch k).mem.read a = s.mem.read a) ∧
  (∀ (s : State) (m : MemOperand), s.eaSeg m = s.guest.ss → s.eaOff m = s.guest.sp →
    ∃ t, exec (.fstcwM16 m) s = .next t ∧
      t.retIP = BitVec.ofNat 16 (s.block.cw.toNat + m.skip) ∧ t.retCS = s.retCS)

/-- SEGOVR sets the override its byte codes, runs the primary vector its byte selects and adds one to the patch; it
never selects SEGOVR or FWAIT (spec R92, R176, R183). -/
def Obligations.SegovrRuns : Prop :=
  (Params.default.segCodeMap 0 = .ds ∧ Params.default.segCodeMap 1 = .cs ∧
    Params.default.segCodeMap 2 = .ss ∧ Params.default.segCodeMap 3 = .es) ∧
  (∀ (e : Esc) (d : Descriptor), instrOf e d ≠ .fwait ∧ ∀ se d', instrOf e d ≠ .segovr se d') ∧
  ∀ (se : Byte) (d : Descriptor) (s : State), ∃ t u, exec (.segovr se d) s = .next t ∧
    exec (instrOf (Esc.ofNumber (se.extractLsb' 0 3)) d)
      { s with guest := { s.guest with override := some (s.params.segCodeMap (se.extractLsb' 6 2)) } } = .next u ∧
    t.block = u.block ∧ t.guest = u.guest ∧ t.params = u.params ∧ t.inTransaction = u.inTransaction ∧
    t.retIP = u.retIP + 1 ∧ ∀ a, ¬ s.RetIPByte a → t.mem.read a = u.mem.read a

/-- Which combinations decode to an ignored row: exactly those that spec R340's list ignores under every parameter. DD
register ops 0, 2 and 3, which the list holds for `ddRegForms = ignored` alone, are left out of `ignoredCombination`:
they decode to FFREE, FST and FSTP ST(i), and the model reads the parameter when one executes (assumption log 21, a
DESIGN CHOICE). The second part covers both: an ignored row, and DD register op 0, 2 or 3 under `ddRegForms =
ignored`, changes no block state and no memory but RetIP, which the decoded skip advances (spec R340, R341, R181). -/
def Obligations.IgnoredCombinations : Prop :=
  (∀ (e : Esc) (d : Descriptor), (instrOf e d).isIgnored = ignoredCombination e d.op d.operand) ∧
  ∀ (i : Instr) (s : State),
    i.isIgnored = true ∨
      (s.params.ddRegForms = .ignored ∧ ∃ j, i = .ffreeSti j ∨ i = .fstSti j ∨ i = .fstpSti j) →
    ∃ t, exec i s = .next t ∧ t.block = s.block ∧ s.OutsideKept t ∧ s.OnlyPatched t i.skipTotal

/-! ### The whole machine -/

/-- No instruction, operand or state raises anything: every one completes (spec R350, R352, R109). -/
def Obligations.ExecCompletes : Prop :=
  ∀ (i : Instr) (s : State), ∃ t, exec i s = .next t

/-- Every step keeps the invariant, from every state that meets it, and no step changes a parameter. -/
def Obligations.StepKeepsInv : Prop :=
  ∀ s t : State, s.Inv → step s = .next t → t.Inv ∧ t.params = s.params

/-- The reset state meets the invariant. -/
def Obligations.ResetInv : Prop := State.reset.Inv

/-- The block after reset (spec R48, R370). -/
def Obligations.ResetState : Prop :=
  State.reset.block.cw = 0x037F ∧ State.reset.block.sw = 0x0000 ∧ State.reset.block.top = 0 ∧
  (∀ p, State.reset.block.tag p = .empty) ∧ tagWord State.reset.block.tags = 0xFFFF ∧
  State.reset.guest.override = none

/-- The memory frame of every instruction: a byte outside the RetIP word and outside the bytes the instruction stores
reads as before (spec R182, R63). -/
def Obligations.MemoryFrame : Prop :=
  ∀ (i : Instr) (s t : State) (a : Nat), exec i s = .next t → ¬ s.RetIPByte a → ¬ s.StoresAt i a →
    t.mem.read a = s.mem.read a

/-- The block writes no guest register but AX, and AX only in FSTSW AX; SEGOVR sets the override (spec R42, R44,
R182). -/
def Obligations.GuestFrame : Prop :=
  ∀ (i : Instr) (s t : State), exec i s = .next t →
    t.guest = { (s.ruleEntry i).guest with
      ax := if i.selected = .fstswAx then s.block.sw else s.guest.ax } ∧
    t.params = s.params ∧ t.inTransaction = s.inTransaction

/-- SW bits 7..0 and 15 change by FLDENV, FCLEX and FINIT only (spec R27). -/
def Obligations.ExceptionBits : Prop :=
  ∀ (i : Instr) (s t : State), exec i s = .next t →
    (∀ m, i.selected ≠ .fldenvM14 m) → i.selected ≠ .fclex → i.selected ≠ .finit →
    ∀ k, k < 8 ∨ k = 15 → t.block.sw.getLsbD k = s.block.sw.getLsbD k

/-- No field of CW affects any computation: replacing CW before an instruction that does not store it changes nothing
after it but CW, which then holds the replacement or what the instruction loaded (spec R28, R351). -/
def Obligations.ControlWordInert : Prop :=
  ∀ (i : Instr) (s : State) (c : Word), (∀ m, i.selected ≠ .fstcwM16 m) → (∀ m, i.selected ≠ .fstenvM14 m) →
    ∃ t c', exec i s = .next t ∧ (c' = c ∨ c' = t.block.cw) ∧
      exec i { s with block := { s.block with cw := c } } = .next { t with block := { t.block with cw := c' } }

/-- Every instruction but FLDENV keeps the tags derived: each is empty or the tag of its slot's value (spec R41). -/
def Obligations.TagInvariant : Prop :=
  ∀ (i : Instr) (s t : State), exec i s = .next t → (∀ m, i.selected ≠ .fldenvM14 m) →
    s.block.TagsDerived → t.block.TagsDerived

/-! ### The register stack and memory -/

/-- The tag of a value (spec R24) and the codes of the tags (spec R23). -/
def Obligations.TagOf : Prop :=
  (∀ v : Double, tagOf v =
    if v.extractLsb' 0 63 = 0#63 then .zero
    else if v.extractLsb' 52 11 = 0x7FF#11 then .special
    else .valid) ∧
  Tag.valid.code = 0 ∧ Tag.zero.code = 1 ∧ Tag.special.code = 2 ∧ Tag.empty.code = 3

/-- TOP is SW[13:11], and each register-stack operation does what its rule says and nothing else; none checks for
overflow or underflow (spec R25, R30 to R36, R40). -/
def Obligations.StackOperations : Prop :=
  (∀ b : Block, b.top = b.sw.extractLsb' 11 3) ∧
  (∀ (sw : Word) (t : BitVec 3) (k : Nat), swTop (swWithTop sw t) = t ∧
    (k < 11 ∨ 14 ≤ k → (swWithTop sw t).getLsbD k = sw.getLsbD k)) ∧
  (∀ (b : Block) (i : BitVec 3), b.getST i = b.reg (b.top + i)) ∧
  (∀ (b : Block) (i : BitVec 3) (v : Double),
    (b.setST i v).reg (b.top + i) = v ∧ (b.setST i v).tag (b.top + i) = tagOf v ∧
    b.SlotsKept (b.setST i v) [b.top + i] ∧ (b.setST i v).sw = b.sw ∧ (b.setST i v).cw = b.cw) ∧
  (∀ (b : Block) (v : Double),
    (b.push v).top = b.top - 1 ∧ (b.push v).getST 0 = v ∧ (b.push v).tag (b.top - 1) = tagOf v ∧
    b.SlotsKept (b.push v) [b.top - 1] ∧ (b.push v).sw = swWithTop b.sw (b.top - 1) ∧ (b.push v).cw = b.cw) ∧
  (∀ b : Block,
    b.pop.top = b.top + 1 ∧ b.pop.tag b.top = .empty ∧ b.pop.reg b.top = b.reg b.top ∧
    b.SlotsKept b.pop [b.top] ∧ b.pop.sw = swWithTop b.sw (b.top + 1) ∧ b.pop.cw = b.cw) ∧
  (∀ (b : Block) (i : BitVec 3),
    (b.free i).tag (b.top + i) = .empty ∧ (b.free i).reg (b.top + i) = b.reg (b.top + i) ∧
    b.SlotsKept (b.free i) [b.top + i] ∧ (b.free i).sw = b.sw ∧ (b.free i).cw = b.cw) ∧
  (∀ b : Block,
    b.incSTP.top = b.top + 1 ∧ b.decSTP.top = b.top - 1 ∧ b.SlotsKept b.incSTP [] ∧ b.SlotsKept b.decSTP [] ∧
    b.incSTP.sw = swWithTop b.sw (b.top + 1) ∧ b.decSTP.sw = swWithTop b.sw (b.top - 1) ∧
    b.incSTP.cw = b.cw ∧ b.decSTP.cw = b.cw)

/-- A compare writes C3, C2 and C0 by the relation of its operands and nothing else (spec R37). -/
def Obligations.Compare : Prop :=
  ∀ (b : Block) (x y : Double) (k : Nat),
    (b.compare x y).regs = b.regs ∧ (b.compare x y).tags = b.tags ∧ (b.compare x y).cw = b.cw ∧
    (b.compare x y).sw.getLsbD k =
      if k = 14 then
        F64.isNaN x || F64.isNaN y || decide (F64.value x = F64.value y)
      else if k = 10 then F64.isNaN x || F64.isNaN y
      else if k = 8 then
        F64.isNaN x || F64.isNaN y || decide (F64.value x < F64.value y)
      else b.sw.getLsbD k

/-- TW is a view of the tags: TW[2p+1:2p] is the code of TAG[p], and composing and loading it lose nothing (spec
R29). -/
def Obligations.TagWordView : Prop :=
  (∀ (t : Vector Tag 8) (p : Fin 8), (tagWord t).extractLsb' (2 * p.val) 2 = t[p].code) ∧
  (∀ t : Vector Tag 8, tagsOfWord (tagWord t) = t) ∧ ∀ w : Word, tagWord (tagsOfWord w) = w

/-- A multi-byte access is byte accesses at u16(off + k), little-endian: after a write byte k of the value stands
there, every other byte is as before, and reading gives the value back (spec R64, R65, R69). -/
def Obligations.LittleEndianAccess : Prop :=
  ∀ (s : State) (seg off : Word) (n v : Nat), n ≤ 65536 →
    (∀ k, k < n → (s.writeLE seg off n v).read8 seg (off + BitVec.ofNat 16 k) = BitVec.ofNat 8 (v / 256 ^ k)) ∧
    (∀ a, ¬ Touches seg off n a → (s.writeLE seg off n v).mem.read a = s.mem.read a) ∧
    (s.writeLE seg off n v).readLE seg off n = v % 256 ^ n

/-- FSTENV and then FLDENV from the same bytes restores CW, SW and the tags and leaves R (spec R332): `u` is any later
state that finds the 14 bytes at its operand as FSTENV left them. -/
def Obligations.EnvironmentRoundTrip : Prop :=
  ∀ (s t u : State) (m m' : MemOperand), exec (.fstenvM14 m) s = .next t →
    (∀ a, s.RetIPByte a → ¬ Touches (s.eaSeg m) (s.eaOff m) 14 a) →
    u.eaSeg m' = s.eaSeg m → u.eaOff m' = s.eaOff m →
    (∀ a, Touches (s.eaSeg m) (s.eaOff m) 14 a → u.mem.read a = t.mem.read a) →
    ∃ w, exec (.fldenvM14 m') u = .next w ∧ w.block.cw = s.block.cw ∧ w.block.sw = s.block.sw ∧
      w.block.tags = s.block.tags ∧ w.block.regs = u.block.regs

/-! ### Arithmetic -/

/-- FADD and FMUL of a memory operand in the four formats (spec R191, R192, R199, R200, R207, R208, R215, R216): the
operand is read at the effective address in the state before, the result goes to ST(0), and nothing else of the block
changes. -/
def Obligations.MemoryAddMul : Prop :=
  ∀ (m : MemOperand) (s : State) (i : Instr) (e : Esc) (op : BitVec 3) (r : Option Double),
    (i, e, op, r) ∈
      [(Instr.faddM32real m, Esc.d8, 0, (s.readFloat32 m).bind (F64.add (s.block.getST 0))),
       (Instr.fiaddM32int m, Esc.da, 0, (s.readInt32 m).bind (F64.add (s.block.getST 0))),
       (Instr.faddM64real m, Esc.dc, 0, (s.readFloat64 m).bind (F64.add (s.block.getST 0))),
       (Instr.fiaddM16int m, Esc.de, 0, (s.readInt16 m).bind (F64.add (s.block.getST 0))),
       (Instr.fmulM32real m, Esc.d8, 1, (s.readFloat32 m).bind (F64.mul (s.block.getST 0))),
       (Instr.fimulM32int m, Esc.da, 1, (s.readInt32 m).bind (F64.mul (s.block.getST 0))),
       (Instr.fmulM64real m, Esc.dc, 1, (s.readFloat64 m).bind (F64.mul (s.block.getST 0))),
       (Instr.fimulM16int m, Esc.de, 1, (s.readInt16 m).bind (F64.mul (s.block.getST 0)))] →
    i.format = .primary e ⟨op, .mem m⟩ ∧
    ∃ t, exec i s = .next t ∧ s.WritesSlot t s.block.top r s.block.sw ∧ s.OutsideKept t ∧ s.OnlyPatched t m.skip

/-- FSUB and FSUBR of a memory operand in the four formats (spec R195, R196, R203, R204, R211, R212, R219, R220). -/
def Obligations.MemorySub : Prop :=
  ∀ (m : MemOperand) (s : State) (i : Instr) (e : Esc) (op : BitVec 3) (r : Option Double),
    (i, e, op, r) ∈
      [(Instr.fsubM32real m, Esc.d8, 4, (s.readFloat32 m).bind fun v => F64.sub (s.block.getST 0) v),
       (Instr.fisubM32int m, Esc.da, 4, (s.readInt32 m).bind fun v => F64.sub (s.block.getST 0) v),
       (Instr.fsubM64real m, Esc.dc, 4, (s.readFloat64 m).bind fun v => F64.sub (s.block.getST 0) v),
       (Instr.fisubM16int m, Esc.de, 4, (s.readInt16 m).bind fun v => F64.sub (s.block.getST 0) v),
       (Instr.fsubrM32real m, Esc.d8, 5, (s.readFloat32 m).bind fun v => F64.sub v (s.block.getST 0)),
       (Instr.fisubrM32int m, Esc.da, 5, (s.readInt32 m).bind fun v => F64.sub v (s.block.getST 0)),
       (Instr.fsubrM64real m, Esc.dc, 5, (s.readFloat64 m).bind fun v => F64.sub v (s.block.getST 0)),
       (Instr.fisubrM16int m, Esc.de, 5, (s.readInt16 m).bind fun v => F64.sub v (s.block.getST 0))] →
    i.format = .primary e ⟨op, .mem m⟩ ∧
    ∃ t, exec i s = .next t ∧ s.WritesSlot t s.block.top r s.block.sw ∧ s.OutsideKept t ∧ s.OnlyPatched t m.skip

/-- FDIV and FDIVR of a memory operand in the four formats (spec R197, R198, R205, R206, R213, R214, R221, R222). -/
def Obligations.MemoryDiv : Prop :=
  ∀ (m : MemOperand) (s : State) (i : Instr) (e : Esc) (op : BitVec 3) (r : Option Double),
    (i, e, op, r) ∈
      [(Instr.fdivM32real m, Esc.d8, 6, (s.readFloat32 m).bind fun v => F64.div (s.block.getST 0) v),
       (Instr.fidivM32int m, Esc.da, 6, (s.readInt32 m).bind fun v => F64.div (s.block.getST 0) v),
       (Instr.fdivM64real m, Esc.dc, 6, (s.readFloat64 m).bind fun v => F64.div (s.block.getST 0) v),
       (Instr.fidivM16int m, Esc.de, 6, (s.readInt16 m).bind fun v => F64.div (s.block.getST 0) v),
       (Instr.fdivrM32real m, Esc.d8, 7, (s.readFloat32 m).bind fun v => F64.div v (s.block.getST 0)),
       (Instr.fidivrM32int m, Esc.da, 7, (s.readInt32 m).bind fun v => F64.div v (s.block.getST 0)),
       (Instr.fdivrM64real m, Esc.dc, 7, (s.readFloat64 m).bind fun v => F64.div v (s.block.getST 0)),
       (Instr.fidivrM16int m, Esc.de, 7, (s.readInt16 m).bind fun v => F64.div v (s.block.getST 0))] →
    i.format = .primary e ⟨op, .mem m⟩ ∧
    ∃ t, exec i s = .next t ∧ s.WritesSlot t s.block.top r s.block.sw ∧ s.OutsideKept t ∧ s.OnlyPatched t m.skip

/-- FCOM and FCOMP of a memory operand in the four formats (spec R193, R194, R201, R202, R209, R210, R217, R218): a
NaN operand is unordered; FCOMP pops after the compare. -/
def Obligations.MemoryCompare : Prop :=
  ∀ (m : MemOperand) (s : State) (i : Instr) (e : Esc) (op : BitVec 3) (r : Option Double),
    (i, e, op, r) ∈
      [(Instr.fcomM32real m, Esc.d8, 2, s.readFloat32 m), (Instr.fcompM32real m, Esc.d8, 3, s.readFloat32 m),
       (Instr.ficomM32int m, Esc.da, 2, s.readInt32 m), (Instr.ficompM32int m, Esc.da, 3, s.readInt32 m),
       (Instr.fcomM64real m, Esc.dc, 2, s.readFloat64 m), (Instr.fcompM64real m, Esc.dc, 3, s.readFloat64 m),
       (Instr.ficomM16int m, Esc.de, 2, s.readInt16 m), (Instr.ficompM16int m, Esc.de, 3, s.readInt16 m)] →
    i.format = .primary e ⟨op, .mem m⟩ ∧
    ∃ t, exec i s = .next t ∧ s.OutsideKept t ∧ s.OnlyPatched t m.skip ∧
      t.block.regs = s.block.regs ∧ t.block.cw = s.block.cw ∧
      (let sw := swCompare s.block.sw (r.elim .unordered (F64.relation (s.block.getST 0)))
       if op = 3 then
         t.block.sw = swWithTop sw (s.block.top + 1) ∧ t.block.tag s.block.top = .empty ∧
           s.block.SlotsKept t.block [s.block.top]
       else t.block.sw = sw ∧ t.block.tags = s.block.tags)

/-- The DC register forms (spec R224 to R229): ST(i) op ST(0) to ST(i). -/
def Obligations.RegisterArith : Prop :=
  ∀ (j : BitVec 3) (s : State) (i : Instr) (op : BitVec 3) (r : Option Double),
    (i, op, r) ∈
      [(Instr.faddStiSt j, 0, F64.add (s.block.getST j) (s.block.getST 0)),
       (Instr.fmulStiSt j, 1, F64.mul (s.block.getST j) (s.block.getST 0)),
       (Instr.fsubrStiSt j, 4, F64.sub (s.block.getST 0) (s.block.getST j)),
       (Instr.fsubStiSt j, 5, F64.sub (s.block.getST j) (s.block.getST 0)),
       (Instr.fdivrStiSt j, 6, F64.div (s.block.getST 0) (s.block.getST j)),
       (Instr.fdivStiSt j, 7, F64.div (s.block.getST j) (s.block.getST 0))] →
    i.format = .primary .dc ⟨op, .reg j⟩ ∧
    ∃ t, exec i s = .next t ∧ s.WritesSlot t (s.block.top + j) r s.block.sw ∧ s.OutsideKept t ∧ s.OnlyPatched t 1

/-- The DE register forms (spec R230 to R235): the result is written to ST(i), then ST(0) is popped, also when i is
0. -/
def Obligations.RegisterArithPop : Prop :=
  ∀ (j : BitVec 3) (s : State) (i : Instr) (op : BitVec 3) (r : Option Double),
    (i, op, r) ∈
      [(Instr.faddpStiSt j, 0, F64.add (s.block.getST j) (s.block.getST 0)),
       (Instr.fmulpStiSt j, 1, F64.mul (s.block.getST j) (s.block.getST 0)),
       (Instr.fsubrpStiSt j, 4, F64.sub (s.block.getST 0) (s.block.getST j)),
       (Instr.fsubpStiSt j, 5, F64.sub (s.block.getST j) (s.block.getST 0)),
       (Instr.fdivrpStiSt j, 6, F64.div (s.block.getST 0) (s.block.getST j)),
       (Instr.fdivpStiSt j, 7, F64.div (s.block.getST j) (s.block.getST 0))] →
    i.format = .primary .de ⟨op, .reg j⟩ ∧
    ∃ t, exec i s = .next t ∧ s.OutsideKept t ∧ s.OnlyPatched t 1 ∧
      Gives r (t.block.reg (s.block.top + j)) ∧ t.block.tag s.block.top = .empty ∧
      (j ≠ 0 → t.block.tag (s.block.top + j) = tagOf (t.block.reg (s.block.top + j)) ∧
        t.block.reg s.block.top = s.block.reg s.block.top) ∧
      s.block.SlotsKept t.block [s.block.top + j, s.block.top] ∧
      t.block.sw = swWithTop s.block.sw (s.block.top + 1) ∧ t.block.cw = s.block.cw

/-- FCOMPP, whatever its rm: ST(0) against ST(1), then two pops (spec R236). -/
def Obligations.Fcompp : Prop :=
  ∀ (j : BitVec 3) (s : State), (Instr.fcompp j).format = .primary .de ⟨3, .reg j⟩ ∧
    ∃ t, exec (.fcompp j) s = .next t ∧ s.OutsideKept t ∧ s.OnlyPatched t 1 ∧
      t.block.sw = swWithTop (swCompare s.block.sw (F64.relation (s.block.getST 0) (s.block.getST 1)))
        (s.block.top + 2) ∧
      t.block.cw = s.block.cw ∧ t.block.regs = s.block.regs ∧
      t.block.tag s.block.top = .empty ∧ t.block.tag (s.block.top + 1) = .empty ∧
      s.block.SlotsKept t.block [s.block.top, s.block.top + 1]

/-! ### Loads, stores, moves and constants -/

/-- The six loads push the converted operand (spec R250, R251, R254, R257, R259, R262, R265). -/
def Obligations.Loads : Prop :=
  ∀ (m : MemOperand) (s : State) (i : Instr) (e : Esc) (op : BitVec 3) (r : Option Double),
    (i, e, op, r) ∈
      [(Instr.fldM32real m, Esc.d9, 0, s.readFloat32 m), (Instr.fildM32int m, Esc.db, 0, s.readInt32 m),
       (Instr.fldM80real m, Esc.db, 5, s.readFloat80 m), (Instr.fldM64real m, Esc.dd, 0, s.readFloat64 m),
       (Instr.fildM16int m, Esc.df, 0, s.readInt16 m), (Instr.fildM64int m, Esc.df, 5, s.readInt64 m)] →
    i.format = .primary e ⟨op, .mem m⟩ ∧
    ∃ t, exec i s = .next t ∧ s.OutsideKept t ∧ s.OnlyPatched t m.skip ∧
      s.WritesSlot t (s.block.top - 1) r (swWithTop s.block.sw (s.block.top - 1))

/-- The floating stores write ST(0) in their format, some NaN for a NaN in the 32- and 64-bit ones, and the forms that
pop do so after reading it (spec R252, R253, R258, R260, R261). -/
def Obligations.FloatStores : Prop :=
  ∀ (m : MemOperand) (s : State) (i : Instr) (e : Esc) (op : BitVec 3) (n : Nat) (stored : Nat → Prop) (pops : Bool),
    (i, e, op, n, stored, pops) ∈
      [(Instr.fstM32real m, Esc.d9, (2 : BitVec 3), 4, fun v => ∃ b : Single, v = b.toNat ∧
          (if F64.isNaN (s.block.getST 0) then b.extractLsb' 23 8 = 255 ∧ b.extractLsb' 0 23 ≠ 0
           else b = doubleToSingle (s.block.getST 0)), false),
       (Instr.fstpM32real m, Esc.d9, 3, 4, fun v => ∃ b : Single, v = b.toNat ∧
          (if F64.isNaN (s.block.getST 0) then b.extractLsb' 23 8 = 255 ∧ b.extractLsb' 0 23 ≠ 0
           else b = doubleToSingle (s.block.getST 0)), true),
       (Instr.fstM64real m, Esc.dd, 2, 8, fun v => ∃ b : Double, v = b.toNat ∧
          (if F64.isNaN (s.block.getST 0) then F64.isNaN b = true else b = s.block.getST 0), false),
       (Instr.fstpM64real m, Esc.dd, 3, 8, fun v => ∃ b : Double, v = b.toNat ∧
          (if F64.isNaN (s.block.getST 0) then F64.isNaN b = true else b = s.block.getST 0), true),
       (Instr.fstpM80real m, Esc.db, 7, 10, fun v => v = (doubleToExtended s.params (s.block.getST 0)).toNat,
          true)] →
    i.format = .primary e ⟨op, .mem m⟩ ∧ i.dataWrite = some (m, n) ∧
    ∃ t v, exec i s = .next t ∧ stored v ∧ s.StoredAndPatched t m n v m.skip ∧ s.OutsideKept t ∧
      t.block = if pops then s.block.pop else s.block

/-- The integer stores write ST(0) rounded and truncated to their width (spec R255, R256, R263, R264, R266). -/
def Obligations.IntegerStores : Prop :=
  ∀ (m : MemOperand) (s : State) (i : Instr) (e : Esc) (op : BitVec 3) (n v : Nat) (pops : Bool),
    (i, e, op, n, v, pops) ∈
      [(Instr.fistM32int m, Esc.db, 2, 4,
          (doubleToInt 32 s.params.intIndefinite32 (s.block.getST 0)).toNat, false),
       (Instr.fistpM32int m, Esc.db, 3, 4,
          (doubleToInt 32 s.params.intIndefinite32 (s.block.getST 0)).toNat, true),
       (Instr.fistM16int m, Esc.df, 2, 2,
          (doubleToInt 16 s.params.intIndefinite16 (s.block.getST 0)).toNat, false),
       (Instr.fistpM16int m, Esc.df, 3, 2,
          (doubleToInt 16 s.params.intIndefinite16 (s.block.getST 0)).toNat, true),
       (Instr.fistpM64int m, Esc.df, 7, 8,
          (doubleToInt 64 s.params.intIndefinite64 (s.block.getST 0)).toNat, true)] →
    i.format = .primary e ⟨op, .mem m⟩ ∧ i.dataWrite = some (m, n) ∧
    ∃ t, exec i s = .next t ∧ s.StoredAndPatched t m n v m.skip ∧ s.OutsideKept t ∧
      t.block = if pops then s.block.pop else s.block

/-- FLD ST(i) pushes a copy and FXCH ST(i) exchanges, patterns exact and tags derived again (spec R267, R268). -/
def Obligations.RegisterMoves : Prop :=
  ∀ (j : BitVec 3) (s : State),
    (Instr.fldSti j).format = .primary .d9 ⟨0, .reg j⟩ ∧ (Instr.fxchSti j).format = .primary .d9 ⟨1, .reg j⟩ ∧
    (∃ t, exec (.fldSti j) s = .next t ∧ s.OutsideKept t ∧ s.OnlyPatched t 1 ∧
      s.WritesSlot t (s.block.top - 1) (some (s.block.getST j)) (swWithTop s.block.sw (s.block.top - 1))) ∧
    (∃ t, exec (.fxchSti j) s = .next t ∧ s.OutsideKept t ∧ s.OnlyPatched t 1 ∧
      t.block.getST 0 = s.block.getST j ∧ t.block.getST j = s.block.getST 0 ∧
      t.block.tag s.block.top = tagOf (s.block.getST j) ∧
      t.block.tag (s.block.top + j) = tagOf (s.block.getST 0) ∧
      s.block.SlotsKept t.block [s.block.top, s.block.top + j] ∧
      t.block.sw = s.block.sw ∧ t.block.cw = s.block.cw)

/-- The DD register forms act under `ddRegForms = standard` and are ignored otherwise (spec R269, R270, R329). -/
def Obligations.DdRegisterForms : Prop :=
  ∀ (j : BitVec 3) (s : State) (i : Instr) (op : BitVec 3) (b : Block),
    (i, op, b) ∈
      [(Instr.fstSti j, 2, s.block.setST j (s.block.getST 0)),
       (Instr.fstpSti j, 3, (s.block.setST j (s.block.getST 0)).pop),
       (Instr.ffreeSti j, 0, s.block.free j)] →
    i.format = .primary .dd ⟨op, .reg j⟩ ∧
    ∃ t, exec i s = .next t ∧ s.OutsideKept t ∧ s.OnlyPatched t 1 ∧
      t.block = if s.params.ddRegForms = .standard then b else s.block

/-- The seven constant loads push their constants (spec R271 to R277), whose defaults are the patterns of spec
R140. -/
def Obligations.Constants : Prop :=
  ([Params.default.log2_10, Params.default.log2_e, Params.default.pi, Params.default.log10_2, Params.default.ln_2] =
    [0x400A934F0979A371, 0x3FF71547652B82FE, 0x400921FB54442D18, 0x3FD34413509F79FF, 0x3FE62E42FEFA39EF]) ∧
  ∀ (s : State) (i : Instr) (rm : BitVec 3) (c : Double),
    (i, rm, c) ∈
      [(Instr.fld1, 0, 0x3FF0000000000000), (Instr.fldl2t, 1, s.params.log2_10), (Instr.fldl2e, 2, s.params.log2_e),
       (Instr.fldpi, 3, s.params.pi), (Instr.fldlg2, 4, s.params.log10_2), (Instr.fldln2, 5, s.params.ln_2),
       (Instr.fldz, 6, 0)] →
    i.format = .primary .d9 ⟨5, .reg rm⟩ ∧
    ∃ t, exec i s = .next t ∧ s.OutsideKept t ∧ s.OnlyPatched t 1 ∧
      s.WritesSlot t (s.block.top - 1) (some c) (swWithTop s.block.sw (s.block.top - 1))

/-! ### The D9 group -/

/-- FCHS inverts and FABS clears bit 63 of ST(0), on every pattern, and derives its tag again (spec R290, R291,
R133). -/
def Obligations.SignOperations : Prop :=
  ∀ s : State, Instr.fchs.format = .primary .d9 ⟨4, .reg 0⟩ ∧ Instr.fabs.format = .primary .d9 ⟨4, .reg 1⟩ ∧
    (∃ t, exec .fchs s = .next t ∧ s.OutsideKept t ∧ s.OnlyPatched t 1 ∧
      s.WritesSlot t s.block.top (some (F64.neg (s.block.getST 0))) s.block.sw) ∧
    (∃ t, exec .fabs s = .next t ∧ s.OutsideKept t ∧ s.OnlyPatched t 1 ∧
      s.WritesSlot t s.block.top (some (F64.abs (s.block.getST 0))) s.block.sw) ∧
    ∀ (x : Double) (k : Nat), k < 64 →
      (F64.neg x).getLsbD k = (if k = 63 then !x.getLsbD k else x.getLsbD k) ∧
      (F64.abs x).getLsbD k = (if k = 63 then false else x.getLsbD k)

/-- FTST compares ST(0) with +0.0; FXAM writes the class of ST(0) to C3, C2, C0 and its sign bit to C1; neither
changes anything else (spec R292, R293). -/
def Obligations.TestAndExamine : Prop :=
  ∀ s : State, Instr.ftst.format = .primary .d9 ⟨4, .reg 4⟩ ∧ Instr.fxam.format = .primary .d9 ⟨4, .reg 5⟩ ∧
    (∃ t, exec .ftst s = .next t ∧ s.OutsideKept t ∧ s.OnlyPatched t 1 ∧
      t.block = s.block.compare (s.block.getST 0) 0) ∧
    (∃ t, exec .fxam s = .next t ∧ s.OutsideKept t ∧ s.OnlyPatched t 1 ∧
      t.block.regs = s.block.regs ∧ t.block.tags = s.block.tags ∧ t.block.cw = s.block.cw ∧
      let v := s.block.getST 0
      let c := fun k => t.block.sw.getLsbD k
      c 9 = v.getLsbD 63 ∧
      (c 14, c 10, c 8) =
        (if s.block.tag s.block.top = .empty then (true, false, true)
         else if v.extractLsb' 52 11 = 0x7FF#11 then
           (if v.extractLsb' 0 52 = 0#52 then (false, true, true) else (false, false, true))
         else if v.extractLsb' 0 63 = 0#63 then (true, false, false)
         else if v.extractLsb' 52 11 = 0#11 then
           (if s.params.fxamSubnormal = .normal then (false, true, false) else (true, true, false))
         else (false, true, false)) ∧
      ∀ k, k ≠ 14 → k ≠ 10 → k ≠ 9 → k ≠ 8 → c k = s.block.sw.getLsbD k)

/-- F2XM1, FPTAN and FPATAN write the value of the parameter `tr`; FPTAN then pushes 1.0 and FPATAN has popped (spec
R294, R296, R297). -/
def Obligations.Transcendentals : Prop :=
  ∀ s : State,
    Instr.f2xm1.format = .primary .d9 ⟨6, .reg 0⟩ ∧ Instr.fptan.format = .primary .d9 ⟨6, .reg 2⟩ ∧
    Instr.fpatan.format = .primary .d9 ⟨6, .reg 3⟩ ∧
    (∃ t, exec .f2xm1 s = .next t ∧ s.OutsideKept t ∧ s.OnlyPatched t 1 ∧
      s.WritesSlot t s.block.top (Tr.exp2m1 s.params.tr (s.block.getST 0)) s.block.sw) ∧
    (∃ t, exec .fptan s = .next t ∧ s.OutsideKept t ∧ s.OnlyPatched t 1 ∧
      Gives (Tr.tan s.params.tr (s.block.getST 0)) (t.block.getST 1) ∧
      t.block.tag s.block.top = tagOf (t.block.getST 1) ∧
      t.block.getST 0 = 0x3FF0000000000000 ∧ t.block.tag (s.block.top - 1) = .valid ∧
      s.block.SlotsKept t.block [s.block.top, s.block.top - 1] ∧
      t.block.sw = swWithTop s.block.sw (s.block.top - 1) ∧ t.block.cw = s.block.cw) ∧
    (∃ t, exec .fpatan s = .next t ∧ s.OutsideKept t ∧ s.OnlyPatched t 1 ∧
      Gives (Tr.atan2 s.params.tr (s.block.getST 1) (s.block.getST 0)) (t.block.getST 0) ∧
      t.block.tag (s.block.top + 1) = tagOf (t.block.getST 0) ∧
      t.block.tag s.block.top = .empty ∧ t.block.reg s.block.top = s.block.reg s.block.top ∧
      s.block.SlotsKept t.block [s.block.top, s.block.top + 1] ∧
      t.block.sw = swWithTop s.block.sw (s.block.top + 1) ∧ t.block.cw = s.block.cw)

/-- FYL2X and FYL2XP1: ST(1) times the logarithm of ST(0), two roundings, after a pop (spec R295, R300). -/
def Obligations.LogProducts : Prop :=
  ∀ (s : State) (i : Instr) (op rm : BitVec 3) (log : Option Double),
    (i, op, rm, log) ∈
      [(Instr.fyl2x, 6, 1, Tr.log2 s.params.tr (s.block.getST 0)),
       (Instr.fyl2xp1, 7, 1, Tr.log2p1 s.params.tr (s.block.getST 0))] →
    i.format = .primary .d9 ⟨op, .reg rm⟩ ∧
    ∃ t, exec i s = .next t ∧ s.OutsideKept t ∧ s.OnlyPatched t 1 ∧
      Gives (log.bind (F64.mul (s.block.getST 1))) (t.block.getST 0) ∧
      t.block.tag (s.block.top + 1) = tagOf (t.block.getST 0) ∧
      t.block.tag s.block.top = .empty ∧ t.block.reg s.block.top = s.block.reg s.block.top ∧
      s.block.SlotsKept t.block [s.block.top, s.block.top + 1] ∧
      t.block.sw = swWithTop s.block.sw (s.block.top + 1) ∧ t.block.cw = s.block.cw

/-- FXTRACT: exponent to ST(1) and significand to ST(0); of a zero -inf and +0.0; of a NaN or an infinity nothing is
said of the two values (spec R298). The exponent of a finite nonzero x, subnormals included, is floor(log2 |x|) as a
binary64 value, and the significand times that power of two is x exactly, with the sign of x and a magnitude in [1, 2)
(spec R138). -/
def Obligations.Fxtract : Prop :=
  (∀ x : Double, F64.isNaN x = false → F64.isInf x = false → F64.isZero x = false →
    ∃ e : Nat, 2 ^ e ≤ F64.units x ∧ F64.units x < 2 ^ (e + 1) ∧
      F64.value (F64.logb x) = ((e : Int) - 1074) * (F64.one : Int) ∧
      F64.value (F64.signif x) * 2 ^ e = F64.value x * (F64.one : Int) ∧
      F64.sign (F64.signif x) = F64.sign x ∧
      F64.one ≤ F64.units (F64.signif x) ∧ F64.units (F64.signif x) < 2 * F64.one) ∧
  ∀ s : State, Instr.fxtract.format = .primary .d9 ⟨6, .reg 4⟩ ∧
    ∃ t, exec .fxtract s = .next t ∧ s.OutsideKept t ∧ s.OnlyPatched t 1 ∧
      (let v := s.block.getST 0
       F64.isNaN v = false → F64.isInf v = false →
         (F64.isZero v = true → t.block.getST 1 = 0xFFF0000000000000 ∧ t.block.getST 0 = 0) ∧
         (F64.isZero v = false → t.block.getST 1 = F64.logb v ∧ t.block.getST 0 = F64.signif v)) ∧
      t.block.tag s.block.top = tagOf (t.block.getST 1) ∧
      t.block.tag (s.block.top - 1) = tagOf (t.block.getST 0) ∧
      s.block.SlotsKept t.block [s.block.top, s.block.top - 1] ∧
      t.block.sw = swWithTop s.block.sw (s.block.top - 1) ∧ t.block.cw = s.block.cw

/-- FPREM writes the IEEE remainder of ST(0) by ST(1) and clears C2 alone (spec R299). -/
def Obligations.Fprem : Prop :=
  ∀ s : State, Instr.fprem.format = .primary .d9 ⟨7, .reg 0⟩ ∧
    ∃ t, exec .fprem s = .next t ∧ s.OutsideKept t ∧ s.OnlyPatched t 1 ∧
      s.WritesSlot t s.block.top (F64.rem (s.block.getST 0) (s.block.getST 1))
        (s.block.sw &&& ~~~(0x0400 : Word))

/-- FSQRT, FRNDINT and FSCALE write ST(0) and nothing else (spec R301, R302, R303). `rint` is the nearest integer, ties
to even, as a double with the sign of x; it keeps an infinity, and of a NaN it is a NaN (spec R135). The default
`scaleFn` is the table of spec R137, with n = trunc y however large. The root's own values are `SqrtNearest`. -/
def Obligations.RootRoundScale : Prop :=
  (∀ x : Double,
    (F64.isNaN x = true → F64.rint x = none) ∧ (F64.isInf x = true → F64.rint x = some x) ∧
    (F64.isNaN x = false → F64.isInf x = false →
      ∃ (r : Double) (k : Int), F64.rint x = some r ∧ k = F64.toInt x ∧ F64.value r = k * (F64.one : Int) ∧
        F64.sign r = F64.sign x ∧ F64.isNaN r = false ∧ F64.isInf r = false ∧
        2 * (F64.value x - F64.value r).natAbs ≤ F64.one ∧
        (2 * (F64.value x - F64.value r).natAbs = F64.one → k % 2 = 0))) ∧
  Params.default.scaleFn = .reference ∧
  (∀ x y : Double,
    (F64.isNaN x = true ∨ F64.isNaN y = true → F64.scale .reference x y = none) ∧
    (F64.isNaN x = false → F64.isInf y = true → F64.sign y = false →
      F64.scale .reference x y = if F64.isZero x then none else some (F64.inf (F64.sign x))) ∧
    (F64.isNaN x = false → F64.isInf y = true → F64.sign y = true →
      F64.scale .reference x y = if F64.isInf x then none else some (F64.zero (F64.sign x))) ∧
    (F64.isNaN y = false → F64.isInf y = false → F64.isZero x = true ∨ F64.isInf x = true →
      F64.scale .reference x y = some x) ∧
    (F64.isNaN y = false → F64.isInf y = false → F64.isNaN x = false → F64.isInf x = false → F64.isZero x = false →
      ∀ n : Nat, n * F64.one ≤ F64.units y → F64.units y < (n + 1) * F64.one →
        F64.scale .reference x y = some (if F64.sign y then F64.round (F64.sign x) (F64.units x) (2 ^ n)
          else F64.round (F64.sign x) (F64.units x * 2 ^ n) 1))) ∧
  ∀ (s : State) (i : Instr) (rm : BitVec 3) (r : Option Double),
    (i, rm, r) ∈
      [(Instr.fsqrt, 2, F64.sqrt (s.block.getST 0)), (Instr.frndint, 4, F64.rint (s.block.getST 0)),
       (Instr.fscale, 5, F64.scale s.params.scaleFn (s.block.getST 0) (s.block.getST 1))] →
    i.format = .primary .d9 ⟨7, .reg rm⟩ ∧
    ∃ t, exec i s = .next t ∧ s.OutsideKept t ∧ s.OnlyPatched t 1 ∧
      s.WritesSlot t s.block.top r s.block.sw

/-! ### Control -/

/-- FNOP, FDECSTP, FINCSTP, FCLEX, FINIT, FSTSW AX and FWAIT (spec R321, R322, R323, R331, R330, R334, R178). FINIT
leaves the slot values unsaid; FWAIT changes nothing, not a byte of memory. -/
def Obligations.StackControl : Prop :=
  (∀ (s : State) (i : Instr) (e : Esc) (op rm : BitVec 3) (sw : Word),
    (i, e, op, rm, sw) ∈
      [(Instr.fnop, Esc.d9, 2, 0, s.block.sw),
       (Instr.fdecstp, Esc.d9, 6, 6, swWithTop s.block.sw (s.block.top - 1)),
       (Instr.fincstp, Esc.d9, 6, 7, swWithTop s.block.sw (s.block.top + 1)),
       (Instr.fclex, Esc.db, 4, 2, s.block.sw &&& ~~~(0x80FF : Word))] →
    i.format = .primary e ⟨op, .reg rm⟩ ∧
    ∃ t, exec i s = .next t ∧ s.OutsideKept t ∧ s.OnlyPatched t 1 ∧ t.block = { s.block with sw := sw }) ∧
  (∀ s : State, Instr.finit.format = .primary .db ⟨4, .reg 3⟩ ∧
    ∃ t, exec .finit s = .next t ∧ s.OutsideKept t ∧ s.OnlyPatched t 1 ∧
      t.block.cw = 0x037F ∧ t.block.sw = 0x0000 ∧ (∀ p, t.block.tag p = .empty)) ∧
  (∀ s : State, Instr.fstswAx.format = .primary .df ⟨4, .reg 0⟩ ∧
    ∃ t, exec .fstswAx s = .next t ∧ t.guest = { s.guest with ax := s.block.sw } ∧ t.block = s.block ∧
      t.params = s.params ∧ t.inTransaction = s.inTransaction ∧ s.OnlyPatched t 1) ∧
  (∀ s : State, Instr.fwait.format = .sync ∧
    ∃ t, exec .fwait s = .next t ∧ s.OutsideKept t ∧ t.block = s.block ∧ t.retIP = s.retIP ∧
      ∀ a, t.mem.read a = s.mem.read a)

/-- FLDCW loads CW and FLDENV loads CW, SW and the tags raw; R is not touched (spec R324, R325). -/
def Obligations.ControlLoads : Prop :=
  ∀ (m : MemOperand) (s : State),
    (Instr.fldcwM16 m).format = .primary .d9 ⟨5, .mem m⟩ ∧ (Instr.fldenvM14 m).format = .primary .d9 ⟨4, .mem m⟩ ∧
    (∃ t, exec (.fldcwM16 m) s = .next t ∧ s.OutsideKept t ∧ s.OnlyPatched t m.skip ∧
      t.block = { s.block with cw := s.read16 (s.eaSeg m) (s.eaOff m) }) ∧
    (∃ t, exec (.fldenvM14 m) s = .next t ∧ s.OutsideKept t ∧ s.OnlyPatched t m.skip ∧
      t.block.cw = s.read16 (s.eaSeg m) (s.eaOff m) ∧ t.block.sw = s.read16 (s.eaSeg m) (s.eaOff m + 2) ∧
      (∀ p : BitVec 3, (t.block.tag p).code =
        (s.read16 (s.eaSeg m) (s.eaOff m + 4)).extractLsb' (2 * p.toNat) 2) ∧
      t.block.regs = s.block.regs)

/-- FSTENV, FSTCW and FSTSW m16 store their words, little-endian, and change no block state (spec R326, R327,
R328). -/
def Obligations.ControlStores : Prop :=
  ∀ (m : MemOperand) (s : State) (i : Instr) (e : Esc) (op : BitVec 3) (n v : Nat),
    (i, e, op, n, v) ∈
      [(Instr.fstenvM14 m, Esc.d9, 6, 14, s.block.cw.toNat + 2 ^ 16 * s.block.sw.toNat +
          2 ^ 32 * (tagWord s.block.tags).toNat),
       (Instr.fstcwM16 m, Esc.d9, 7, 2, s.block.cw.toNat), (Instr.fstswM16 m, Esc.dd, 7, 2, s.block.sw.toNat)] →
    i.format = .primary e ⟨op, .mem m⟩ ∧ i.dataWrite = some (m, n) ∧
    ∃ t, exec i s = .next t ∧ s.StoredAndPatched t m n v m.skip ∧ s.OutsideKept t ∧ t.block = s.block

/-! ### Numerics -/

/-- Rounding is to nearest, ties to even: no finite value lies nearer the exact n / d (in units of 2^-1074) than a
finite result, a tie goes to the even pattern, the sign is kept, and the result is infinite exactly from
(2 - 2^-53) * 2^1023 on (spec R13, R130). -/
def Obligations.RoundNearest : Prop :=
  ∀ (s : Bool) (n d : Nat), 0 < d →
    F64.sign (F64.round s n d) = s ∧ F64.isNaN (F64.round s n d) = false ∧
    (F64.isInf (F64.round s n d) = true ↔ (2 ^ 54 - 1) * 2 ^ 2044 * d ≤ n) ∧
    (F64.isInf (F64.round s n d) = false →
      ∀ y : Double, F64.isNaN y = false → F64.isInf y = false →
        ((F64.units (F64.round s n d) * d : Nat) - (n : Int)).natAbs ≤ ((F64.units y * d : Nat) - (n : Int)).natAbs ∧
        (((F64.units (F64.round s n d) * d : Nat) - (n : Int)).natAbs = ((F64.units y * d : Nat) - (n : Int)).natAbs →
          F64.units y ≠ F64.units (F64.round s n d) → (F64.round s n d).getLsbD 0 = false))

/-- add, sub, mul and div: which results are NaN; of finite operands the exact sum, difference, product or quotient
rounded once, with the sign of a zero sum or difference; the infinite and zero results of an infinite operand and of a
zero divisor, with their signs (spec R130, R238). -/
def Obligations.ArithmeticSpecials : Prop :=
  ∀ a b : Double,
    (F64.add a b = none ↔ F64.isNaN a = true ∨ F64.isNaN b = true ∨
      (F64.isInf a = true ∧ F64.isInf b = true ∧ F64.sign a ≠ F64.sign b)) ∧
    (F64.sub a b = none ↔ F64.isNaN a = true ∨ F64.isNaN b = true ∨
      (F64.isInf a = true ∧ F64.isInf b = true ∧ F64.sign a = F64.sign b)) ∧
    (F64.mul a b = none ↔ F64.isNaN a = true ∨ F64.isNaN b = true ∨
      (F64.isInf a = true ∧ F64.isZero b = true) ∨ (F64.isZero a = true ∧ F64.isInf b = true)) ∧
    (F64.div a b = none ↔ F64.isNaN a = true ∨ F64.isNaN b = true ∨
      (F64.isInf a = true ∧ F64.isInf b = true) ∨ (F64.isZero a = true ∧ F64.isZero b = true)) ∧
    (∀ r, F64.mul a b = some r → F64.sign r = (F64.sign a != F64.sign b)) ∧
    (∀ r, F64.div a b = some r → F64.sign r = (F64.sign a != F64.sign b)) ∧
    (∀ r, F64.add a b = some r → F64.isZero r = true → F64.value a + F64.value b = 0 ∧
      F64.sign r = (F64.sign a && F64.sign b)) ∧
    (F64.isNaN a = false → F64.isInf a = false → F64.isZero a = false → F64.isZero b = true →
      F64.div a b = some (F64.inf (F64.sign a != F64.sign b))) ∧
    (F64.isNaN a = false → F64.isInf a = false → F64.isInf b = true →
      F64.div a b = some (F64.zero (F64.sign a != F64.sign b))) ∧
    (∀ r, F64.sub a b = some r → F64.isZero r = true → F64.value a - F64.value b = 0 ∧
      F64.sign r = (F64.sign a && !F64.sign b)) ∧
    (F64.isNaN a = false → F64.isInf a = false → F64.isNaN b = false → F64.isInf b = false →
      F64.add a b = some (if F64.value a + F64.value b = 0 then F64.zero (F64.sign a && F64.sign b)
        else F64.round (decide (F64.value a + F64.value b < 0)) (F64.value a + F64.value b).natAbs 1) ∧
      F64.sub a b = some (if F64.value a - F64.value b = 0 then F64.zero (F64.sign a && !F64.sign b)
        else F64.round (decide (F64.value a - F64.value b < 0)) (F64.value a - F64.value b).natAbs 1) ∧
      F64.mul a b = some (F64.round (F64.sign a != F64.sign b) (F64.units a * F64.units b) F64.one) ∧
      (F64.isZero b = false →
        F64.div a b = some (F64.round (F64.sign a != F64.sign b) (F64.units a * F64.one) (F64.units b)))) ∧
    (F64.isInf a = true → F64.isNaN b = false →
      ((F64.isInf b = true → F64.sign a = F64.sign b) → F64.add a b = some a) ∧
      ((F64.isInf b = true → F64.sign a ≠ F64.sign b) → F64.sub a b = some a) ∧
      (F64.isInf b = false → F64.div a b = some (F64.inf (F64.sign a != F64.sign b)))) ∧
    (F64.isNaN a = false → F64.isInf a = false → F64.isInf b = true →
      F64.add a b = some b ∧ F64.sub a b = some (F64.neg b)) ∧
    (F64.isNaN a = false → F64.isNaN b = false → F64.isZero a = false → F64.isZero b = false →
      F64.isInf a = true ∨ F64.isInf b = true → F64.mul a b = some (F64.inf (F64.sign a != F64.sign b)))

/-- The IEEE remainder is exact: x - y * n with n the integer nearest x / y, ties to even, the sign of x on a zero; NaN
for a NaN operand, an infinite x or a zero y; x itself for an infinite y (spec R136). -/
def Obligations.RemainderExact : Prop :=
  ∀ x y : Double,
    (F64.rem x y = none ↔
      F64.isNaN x = true ∨ F64.isNaN y = true ∨ F64.isInf x = true ∨ F64.isZero y = true) ∧
    (F64.isNaN x = false → F64.isInf x = false → F64.isInf y = true → F64.rem x y = some x) ∧
    (F64.isNaN x = false → F64.isNaN y = false → F64.isInf x = false → F64.isInf y = false → F64.isZero y = false →
      ∃ (r : Double) (n : Int), F64.rem x y = some r ∧ F64.isInf r = false ∧
        F64.value r = F64.value x - F64.value y * n ∧
        2 * (F64.value r).natAbs ≤ F64.units y ∧ (2 * (F64.value r).natAbs = F64.units y → n % 2 = 0) ∧
        (F64.value r = 0 → F64.sign r = F64.sign x))

/-- The codecs. A 32-, 64- or 80-bit read converts the four, eight or ten little-endian bytes at the effective address,
the 80-bit one under the parameter `f80EdgeDecode`; a 32-bit pattern gives exactly its value, a 64-bit pattern itself,
and a NaN pattern of any width a draw (spec R141, R143, R146). What a store writes of a value that is no NaN a load of the same width reads back, for the 64-bit
format, the 80-bit format with normalized subnormals, and every 32-bit pattern (spec R141 to R149). The cases of the
80-bit read on every sign, E and M: zero, infinity (M = 0 too), NaN, and else the formula, rounded once; in the edge
band, and there only, an unknown `f80EdgeDecode` decides instead (spec R145, R146, R147). That this parameter is the
reference or an opaque function, by a switch, and that a NaN it gives is a draw (`ofParameter`), is the model's choice
(assumption log 9, DESIGN CHOICE and DEDUCED); the same switch stands for `nan80`, of which the unknown one is some NaN
pattern (assumption logs 9 and 11). The pattern an 80-bit store writes of each class, and how a literal subnormal reads
back (spec R148, R149). -/
def Obligations.CodecRoundTrips : Prop :=
  (Params.default.f80EdgeDecode = .reference ∧ Params.default.nan80 = .reference ∧
    Params.default.f80SubnormalEnc = .normalized) ∧
  (∀ (b : Extended) (c : Choice),
    let m := b.extractLsb' 0 64
    let e := b.extractLsb' 64 15
    let zero := e = 0 ∧ m = 0
    let band := (m ≠ 0 ∧ (e.toNat < 15372 ∨ m.toNat * 2 ^ e.toNat < 2 ^ 52 * 2 ^ 15372)) ∨ (m = 0 ∧ 17470 ≤ e.toNat)
    (zero → extendedToDouble c b = some (F64.zero b.msb)) ∧
    (e = 0x7FFF → m.extractLsb' 0 63 = 0 → extendedToDouble c b = some (F64.inf b.msb)) ∧
    (e = 0x7FFF → m.extractLsb' 0 63 ≠ 0 → extendedToDouble c b = none) ∧
    (¬ zero → e ≠ 0x7FFF → c = .reference ∨ ¬ band →
      extendedToDouble c b = some (F64.round b.msb (m.toNat * 2 ^ e.toNat) (2 ^ 15372))) ∧
    (¬ zero → e ≠ 0x7FFF → c = .unknown → band →
      extendedToDouble c b = ofParameter (Config.f80EdgeDecode b.msb e m))) ∧
  (∀ (p : Params) (x : Double),
    let w := doubleToExtended p x
    let m := (w.extractLsb' 0 64).toNat
    let e := (w.extractLsb' 64 15).toNat
    (F64.isNaN x = false ∨ p.nan80 = .reference → w.msb = F64.sign x) ∧
    (F64.isZero x = true → e = 0 ∧ m = 0) ∧
    (F64.isInf x = true → e = 0x7FFF ∧ m = 2 ^ 63) ∧
    (1 ≤ F64.expo x → F64.expo x ≤ 2046 → e = F64.expo x + 15360 ∧ m = 2 ^ 63 + F64.frac x * 2 ^ 11) ∧
    (F64.isSubnormal x = true → p.f80SubnormalEnc = .normalized →
      ∀ k : Nat, 2 ^ k ≤ F64.frac x → F64.frac x < 2 ^ (k + 1) → e = k + 15309 ∧ m = F64.frac x * 2 ^ (63 - k)) ∧
    (F64.isSubnormal x = true → p.f80SubnormalEnc = .literal → e = 15360 ∧ m = F64.frac x * 2 ^ 11 ∧
      extendedToDouble .reference w = some (F64.round (F64.sign x) (F64.units x) 2)) ∧
    (F64.isNaN x = true → p.nan80 = .reference → e = 0x7FFF ∧ m = 2 ^ 63 + F64.frac x * 2 ^ 11) ∧
    (F64.isNaN x = true → e = 0x7FFF ∧ m % 2 ^ 63 ≠ 0)) ∧
  (∀ x : Double, (F64.isNaN x = false → doubleRead x = some x) ∧ (F64.isNaN x = true → doubleRead x = none)) ∧
  (∀ b : Single,
    let e := (b.extractLsb' 23 8).toNat
    let f := (b.extractLsb' 0 23).toNat
    (e = 255 → f ≠ 0 → singleToDouble b = none) ∧
    (e = 255 → f = 0 → singleToDouble b = some (F64.inf b.msb)) ∧
    (e < 255 → ∃ r, singleToDouble b = some r ∧ F64.isNaN r = false ∧ F64.isInf r = false ∧ F64.sign r = b.msb ∧
      F64.units r = (if e = 0 then f else (2 ^ 23 + f) * 2 ^ (e - 1)) * 2 ^ 925)) ∧
  (∀ (s : State) (m : MemOperand),
    (∀ b : Single, s.OperandBits m b → s.readFloat32 m = singleToDouble b) ∧
    (∀ b : Double, s.OperandBits m b → s.readFloat64 m = if F64.isNaN b then none else some b) ∧
    (∀ b : Extended, s.OperandBits m b → s.readFloat80 m = extendedToDouble s.params.f80EdgeDecode b)) ∧
  (∀ (p : Params) (x : Double), F64.isNaN x = false → p.f80SubnormalEnc = .normalized →
    extendedToDouble .reference (doubleToExtended p x) = some x) ∧
  (∀ (b : Single) (x : Double), singleToDouble b = some x → doubleToSingle x = b)

/-- A 32-bit store rounds to nearest, ties to even: no finite binary32 value lies nearer the stored number than what it
reads back as, a tie goes to the even pattern, the sign is kept, and from (2 - 2^-24) * 2^127 on it is infinite (spec
R142). -/
def Obligations.SingleRounding : Prop :=
  ∀ x : Double, F64.isNaN x = false → F64.isInf x = false →
    ∃ r, singleToDouble (doubleToSingle x) = some r ∧ F64.sign r = F64.sign x ∧
      (F64.isInf r = true ↔ (2 ^ 25 - 1) * 2 ^ 103 * F64.one ≤ F64.units x) ∧
      (F64.isInf r = false → ∀ (y : Single) (w : Double), singleToDouble y = some w → F64.isInf w = false →
        (F64.value r - F64.value x).natAbs ≤ (F64.value w - F64.value x).natAbs ∧
        ((F64.value r - F64.value x).natAbs = (F64.value w - F64.value x).natAbs → F64.value w ≠ F64.value r →
          (doubleToSingle x).getLsbD 0 = false))

/-- An integer read takes the two, four or eight little-endian bytes at the effective address as a signed integer k and
gives the binary64 of k: rounded once, exact for 16 and 32 bits and up to 2^53, +0.0 of zero (spec R150). An integer
store rounds to nearest, ties to even, and keeps the low bits within the 64-bit range; a NaN, an
infinity and anything beyond give the indefinite value (spec R151, R135). -/
def Obligations.IntegerConversion : Prop :=
  (∀ x : Double, F64.isNaN x = false → F64.isInf x = false →
    2 * (F64.value x - F64.toInt x * (F64.one : Int)).natAbs ≤ F64.one ∧
    (2 * (F64.value x - F64.toInt x * (F64.one : Int)).natAbs = F64.one → F64.toInt x % 2 = 0)) ∧
  (∀ (n : Nat) (indefinite : BitVec n) (x : Double), doubleToInt n indefinite x =
    if F64.isNaN x = false ∧ F64.isInf x = false ∧ -(2 ^ 63 : Int) ≤ F64.toInt x ∧ F64.toInt x < 2 ^ 63 then
      BitVec.ofInt n (F64.toInt x)
    else indefinite) ∧
  (∀ k : Int, k.natAbs ≤ 2 ^ 53 → F64.value (F64.ofInt k) = k * (F64.one : Int) ∧ F64.toInt (F64.ofInt k) = k) ∧
  (∀ (s : State) (m : MemOperand) (k : Int),
    let exact := fun r : Option Double => ∃ x, r = some x ∧ F64.value x = k * (F64.one : Int) ∧ (k = 0 → x = 0)
    (∀ b : BitVec 16, s.OperandBits m b → k = b.toInt → exact (s.readInt16 m)) ∧
    (∀ b : BitVec 32, s.OperandBits m b → k = b.toInt → exact (s.readInt32 m)) ∧
    (∀ b : BitVec 64, s.OperandBits m b → k = b.toInt →
      s.readInt64 m = some (F64.round (decide (k < 0)) (k.natAbs * F64.one) 1) ∧
      (k.natAbs ≤ 2 ^ 53 → exact (s.readInt64 m))))

/-- The square root is correctly rounded: no finite value lies nearer the exact root; sqrt of a zero is that zero, of
+inf +inf, and of a NaN or a negative number NaN (spec R130, R301). -/
def Obligations.SqrtNearest : Prop :=
  ∀ x : Double,
    (F64.sqrt x = none ↔ F64.isNaN x = true ∨ (F64.sign x = true ∧ F64.isZero x = false)) ∧
    (F64.isZero x = true → F64.sqrt x = some x) ∧
    (F64.isInf x = true → F64.sign x = false → F64.sqrt x = some x) ∧
    (F64.isNaN x = false → F64.isInf x = false → F64.sign x = false →
      ∃ r, F64.sqrt x = some r ∧ F64.isNaN r = false ∧ F64.isInf r = false ∧ F64.sign r = false ∧
        ∀ y : Double, F64.isNaN y = false → F64.isInf y = false →
          |(F64.units r : ℝ) - Real.sqrt ((F64.units x : ℝ) * 2 ^ 1074)| ≤
            |(F64.units y : ℝ) - Real.sqrt ((F64.units x : ℝ) * 2 ^ 1074)|)

/-- The special values of the reference `tr` (spec R139), which the spec gives from general knowledge (assumption log
10); of atan2 the cases of C99 and IEEE-754 for a zero or an infinite operand, two of them in spec R297, with the
multiples of a quarter of pi as their nearest doubles. -/
def Obligations.TranscendentalSpecials : Prop :=
  ∀ x : Double,
    (F64.isNaN x = true → Tr.exp2m1 .reference x = none ∧ Tr.log2 .reference x = none ∧
      Tr.log2p1 .reference x = none ∧ Tr.tan .reference x = none ∧
      ∀ y, Tr.atan2 .reference x y = none ∧ Tr.atan2 .reference y x = none) ∧
    (F64.isZero x = true → Tr.exp2m1 .reference x = some x ∧ Tr.log2 .reference x = some (F64.inf true) ∧
      Tr.log2p1 .reference x = some x ∧ Tr.tan .reference x = some x) ∧
    Tr.exp2m1 .reference (F64.inf false) = some (F64.inf false) ∧
    Tr.exp2m1 .reference (F64.inf true) = some 0xBFF0000000000000 ∧
    Tr.log2 .reference (F64.inf false) = some (F64.inf false) ∧
    Tr.log2p1 .reference (F64.inf false) = some (F64.inf false) ∧
    Tr.log2 .reference 0x3FF0000000000000 = some 0 ∧
    Tr.log2p1 .reference 0xBFF0000000000000 = some (F64.inf true) ∧
    (F64.isInf x = true → Tr.tan .reference x = none) ∧
    (F64.isNaN x = false → F64.value x < 0 → Tr.log2 .reference x = none) ∧
    (F64.isNaN x = false → F64.value x < -(F64.one : Int) → Tr.log2p1 .reference x = none) ∧
    (F64.isNaN x = false → ∀ y, F64.isNaN y = false →
      (F64.isZero y = true → Tr.atan2 .reference y x =
        some (if F64.sign x then F64.pack (F64.sign y) 0x400921FB54442D18 else F64.zero (F64.sign y))) ∧
      (F64.isInf y = true → F64.isInf x = true → Tr.atan2 .reference y x =
        some (F64.pack (F64.sign y) (if F64.sign x then 0x4002D97C7F3321D2 else 0x3FE921FB54442D18))) ∧
      (F64.isInf y = true → F64.isInf x = false →
        Tr.atan2 .reference y x = some (F64.pack (F64.sign y) 0x3FF921FB54442D18)) ∧
      (F64.isInf y = false → F64.isZero y = false → F64.isInf x = true → Tr.atan2 .reference y x =
        some (if F64.sign x then F64.pack (F64.sign y) 0x400921FB54442D18 else F64.zero (F64.sign y))) ∧
      (F64.isInf y = false → F64.isZero y = false → F64.isZero x = true →
        Tr.atan2 .reference y x = some (F64.pack (F64.sign y) 0x3FF921FB54442D18)))
end

