-- ==== Sys2Proof/Laws/State.lean ====
section
/-! SUPPORT. What each update of the state leaves in each field: one lemma per field and update, true by
rfl; written (rfl), so that simp rewrites with them step by step and the kernel compares no whole states. -/

namespace Sys2Proof.Machine

/-! ### State.onBlock -/

@[simp] theorem State.onBlock_block (s : State) (f : Block → Block) : (s.onBlock f).block = f s.block := (rfl)
@[simp] theorem State.onBlock_guest (s : State) (f : Block → Block) : (s.onBlock f).guest = s.guest := (rfl)
@[simp] theorem State.onBlock_mem (s : State) (f : Block → Block) : (s.onBlock f).mem = s.mem := (rfl)
@[simp] theorem State.onBlock_inTransaction (s : State) (f : Block → Block) :
    (s.onBlock f).inTransaction = s.inTransaction := (rfl)
@[simp] theorem State.onBlock_params (s : State) (f : Block → Block) : (s.onBlock f).params = s.params := (rfl)
@[simp] theorem State.onBlock_draws (s : State) (f : Block → Block) : (s.onBlock f).draws = s.draws := (rfl)

/-! ### State.write8 -/

@[simp] theorem State.write8_block (s : State) (seg off : Word) (b : Byte) :
    (s.write8 seg off b).block = s.block := (rfl)
@[simp] theorem State.write8_guest (s : State) (seg off : Word) (b : Byte) :
    (s.write8 seg off b).guest = s.guest := (rfl)
@[simp] theorem State.write8_mem (s : State) (seg off : Word) (b : Byte) :
    (s.write8 seg off b).mem = s.mem.write (linear seg off) b := (rfl)
@[simp] theorem State.write8_inTransaction (s : State) (seg off : Word) (b : Byte) :
    (s.write8 seg off b).inTransaction = s.inTransaction := (rfl)
@[simp] theorem State.write8_params (s : State) (seg off : Word) (b : Byte) :
    (s.write8 seg off b).params = s.params := (rfl)
@[simp] theorem State.write8_draws (s : State) (seg off : Word) (b : Byte) :
    (s.write8 seg off b).draws = s.draws := (rfl)

/-! ### State.drawn -/

@[simp] theorem State.drawn_block (s : State) (n : Nat) : (s.drawn n).block = s.block := (rfl)
@[simp] theorem State.drawn_guest (s : State) (n : Nat) : (s.drawn n).guest = s.guest := (rfl)
@[simp] theorem State.drawn_mem (s : State) (n : Nat) : (s.drawn n).mem = s.mem := (rfl)
@[simp] theorem State.drawn_inTransaction (s : State) (n : Nat) : (s.drawn n).inTransaction = s.inTransaction := (rfl)
@[simp] theorem State.drawn_params (s : State) (n : Nat) : (s.drawn n).params = s.params := (rfl)
@[simp] theorem State.drawn_draws (s : State) (n : Nat) : (s.drawn n).draws = s.draws + n := (rfl)

/-! ### State.withOverride -/

@[simp] theorem State.withOverride_block (s : State) (r : SegReg) : (s.withOverride r).block = s.block := (rfl)
@[simp] theorem State.withOverride_guest (s : State) (r : SegReg) :
    (s.withOverride r).guest = { s.guest with override := some r } := (rfl)
@[simp] theorem State.withOverride_mem (s : State) (r : SegReg) : (s.withOverride r).mem = s.mem := (rfl)
@[simp] theorem State.withOverride_inTransaction (s : State) (r : SegReg) :
    (s.withOverride r).inTransaction = s.inTransaction := (rfl)
@[simp] theorem State.withOverride_params (s : State) (r : SegReg) : (s.withOverride r).params = s.params := (rfl)
@[simp] theorem State.withOverride_draws (s : State) (r : SegReg) : (s.withOverride r).draws = s.draws := (rfl)

/-! ### State.trapReturn -/

@[simp] theorem State.trapReturn_block (s : State) : (s.trapReturn).block = s.block := (rfl)
@[simp] theorem State.trapReturn_guest (s : State) :
    (s.trapReturn).guest = { s.guest with ip := s.retIP, cs := s.retCS, flags := s.read16 s.guest.ss (s.guest.sp + 4), sp := s.guest.sp + 6, override := none } := (rfl)
@[simp] theorem State.trapReturn_mem (s : State) : (s.trapReturn).mem = s.mem := (rfl)
@[simp] theorem State.trapReturn_inTransaction (s : State) : (s.trapReturn).inTransaction = false := (rfl)
@[simp] theorem State.trapReturn_params (s : State) : (s.trapReturn).params = s.params := (rfl)
@[simp] theorem State.trapReturn_draws (s : State) : (s.trapReturn).draws = s.draws := (rfl)

/-! ### Block.withTop -/

@[simp] theorem Block.withTop_regs (b : Block) (t : BitVec 3) : (b.withTop t).regs = b.regs := (rfl)
@[simp] theorem Block.withTop_tags (b : Block) (t : BitVec 3) : (b.withTop t).tags = b.tags := (rfl)
@[simp] theorem Block.withTop_sw (b : Block) (t : BitVec 3) : (b.withTop t).sw = swWithTop b.sw t := (rfl)
@[simp] theorem Block.withTop_cw (b : Block) (t : BitVec 3) : (b.withTop t).cw = b.cw := (rfl)

/-! ### Block.setReg -/

@[simp] theorem Block.setReg_regs (b : Block) (p : BitVec 3) (v : Double) :
    (b.setReg p v).regs = b.regs.set p.toNat v p.isLt := (rfl)
@[simp] theorem Block.setReg_tags (b : Block) (p : BitVec 3) (v : Double) : (b.setReg p v).tags = b.tags := (rfl)
@[simp] theorem Block.setReg_sw (b : Block) (p : BitVec 3) (v : Double) : (b.setReg p v).sw = b.sw := (rfl)
@[simp] theorem Block.setReg_cw (b : Block) (p : BitVec 3) (v : Double) : (b.setReg p v).cw = b.cw := (rfl)

/-! ### Block.setTag -/

@[simp] theorem Block.setTag_regs (b : Block) (p : BitVec 3) (t : Tag) : (b.setTag p t).regs = b.regs := (rfl)
@[simp] theorem Block.setTag_tags (b : Block) (p : BitVec 3) (t : Tag) :
    (b.setTag p t).tags = b.tags.set p.toNat t p.isLt := (rfl)
@[simp] theorem Block.setTag_sw (b : Block) (p : BitVec 3) (t : Tag) : (b.setTag p t).sw = b.sw := (rfl)
@[simp] theorem Block.setTag_cw (b : Block) (p : BitVec 3) (t : Tag) : (b.setTag p t).cw = b.cw := (rfl)

/-! ### Block.setST -/

@[simp] theorem Block.setST_regs (b : Block) (i : BitVec 3) (v : Double) :
    (b.setST i v).regs = b.regs.set (b.phys i).toNat v (b.phys i).isLt := (rfl)
@[simp] theorem Block.setST_tags (b : Block) (i : BitVec 3) (v : Double) :
    (b.setST i v).tags = b.tags.set (b.phys i).toNat (tagOf v) (b.phys i).isLt := (rfl)
@[simp] theorem Block.setST_sw (b : Block) (i : BitVec 3) (v : Double) : (b.setST i v).sw = b.sw := (rfl)
@[simp] theorem Block.setST_cw (b : Block) (i : BitVec 3) (v : Double) : (b.setST i v).cw = b.cw := (rfl)

/-! ### Block.incSTP -/

@[simp] theorem Block.incSTP_regs (b : Block) : (b.incSTP).regs = b.regs := (rfl)
@[simp] theorem Block.incSTP_tags (b : Block) : (b.incSTP).tags = b.tags := (rfl)
@[simp] theorem Block.incSTP_sw (b : Block) : (b.incSTP).sw = swWithTop b.sw (b.top + 1) := (rfl)
@[simp] theorem Block.incSTP_cw (b : Block) : (b.incSTP).cw = b.cw := (rfl)

/-! ### Block.decSTP -/

@[simp] theorem Block.decSTP_regs (b : Block) : (b.decSTP).regs = b.regs := (rfl)
@[simp] theorem Block.decSTP_tags (b : Block) : (b.decSTP).tags = b.tags := (rfl)
@[simp] theorem Block.decSTP_sw (b : Block) : (b.decSTP).sw = swWithTop b.sw (b.top - 1) := (rfl)
@[simp] theorem Block.decSTP_cw (b : Block) : (b.decSTP).cw = b.cw := (rfl)

/-! ### Block.free -/

@[simp] theorem Block.free_regs (b : Block) (i : BitVec 3) : (b.free i).regs = b.regs := (rfl)
@[simp] theorem Block.free_tags (b : Block) (i : BitVec 3) :
    (b.free i).tags = b.tags.set (b.phys i).toNat Tag.empty (b.phys i).isLt := (rfl)
@[simp] theorem Block.free_sw (b : Block) (i : BitVec 3) : (b.free i).sw = b.sw := (rfl)
@[simp] theorem Block.free_cw (b : Block) (i : BitVec 3) : (b.free i).cw = b.cw := (rfl)

/-! ### Block.compare -/

@[simp] theorem Block.compare_regs (b : Block) (x y : Double) : (b.compare x y).regs = b.regs := (rfl)
@[simp] theorem Block.compare_tags (b : Block) (x y : Double) : (b.compare x y).tags = b.tags := (rfl)
@[simp] theorem Block.compare_sw (b : Block) (x y : Double) :
    (b.compare x y).sw = swCompare b.sw (F64.relation x y) := (rfl)
@[simp] theorem Block.compare_cw (b : Block) (x y : Double) : (b.compare x y).cw = b.cw := (rfl)

/-! ### Block.clearExceptions -/

@[simp] theorem Block.clearExceptions_regs (b : Block) : (b.clearExceptions).regs = b.regs := (rfl)
@[simp] theorem Block.clearExceptions_tags (b : Block) : (b.clearExceptions).tags = b.tags := (rfl)
@[simp] theorem Block.clearExceptions_sw (b : Block) : (b.clearExceptions).sw = swClearExceptions b.sw := (rfl)
@[simp] theorem Block.clearExceptions_cw (b : Block) : (b.clearExceptions).cw = b.cw := (rfl)

/-! ### Block.withEnvironment -/

@[simp] theorem Block.withEnvironment_regs (b : Block) (cw sw tw : Word) :
    (b.withEnvironment cw sw tw).regs = b.regs := (rfl)
@[simp] theorem Block.withEnvironment_tags (b : Block) (cw sw tw : Word) :
    (b.withEnvironment cw sw tw).tags = tagsOfWord tw := (rfl)
@[simp] theorem Block.withEnvironment_sw (b : Block) (cw sw tw : Word) : (b.withEnvironment cw sw tw).sw = sw := (rfl)
@[simp] theorem Block.withEnvironment_cw (b : Block) (cw sw tw : Word) : (b.withEnvironment cw sw tw).cw = cw := (rfl)

end Sys2Proof.Machine
end

