-- ==== Sys2Proof/Laws/Memory.lean ====
section
/-! SUPPORT. Memory: read after write, and the canonical form every write keeps. -/

namespace Sys2Proof.Machine

theorem linear_lt (seg off : Word) : linear seg off < Memory.size := Nat.mod_lt _ (by decide)

/-- In one segment two offsets share an address only when they are equal. -/
theorem linear_inj (seg : Word) {a b : Word} (h : linear seg a = linear seg b) : a = b := by
  have ha := a.isLt
  have hb := b.isLt
  simp only [linear, Memory.size] at h
  apply BitVec.eq_of_toNat_eq
  omega

theorem Memory.read_erase_same (m : Memory) (a : Nat) : (m.erase a).read a = Memory.unlisted := by
  induction m with
  | nil => rfl
  | cons c rest ih =>
    obtain ⟨k, v⟩ := c
    by_cases h : k = a <;> simp [Memory.erase, Memory.read, h, ih]

theorem Memory.read_erase_other (m : Memory) {a c : Nat} (h : c ≠ a) : (m.erase a).read c = m.read c := by
  induction m with
  | nil => rfl
  | cons e rest ih =>
    obtain ⟨k, v⟩ := e
    by_cases hk : k = a
    · subst hk
      simp [Memory.erase, Memory.read, ih, h.symm]
    · simp only [Memory.erase, hk, if_false, Memory.read, ih]

theorem Memory.read_insert_same (m : Memory) (a : Nat) (b : Byte) : (m.insert a b).read a = b := by
  induction m with
  | nil => simp [Memory.insert, Memory.read]
  | cons e rest ih =>
    obtain ⟨k, v⟩ := e
    simp only [Memory.insert]
    split
    · simp [Memory.read]
    · split
      · simp [Memory.read]
      · rename_i _ h
        have hk : k ≠ a := fun e => h e.symm
        simp [Memory.read, hk, ih]

theorem Memory.read_insert_other (m : Memory) {a c : Nat} (b : Byte) (h : c ≠ a) :
    (m.insert a b).read c = m.read c := by
  induction m with
  | nil => simp [Memory.insert, Memory.read, h.symm]
  | cons e rest ih =>
    obtain ⟨k, v⟩ := e
    simp only [Memory.insert]
    split
    · simp [Memory.read, h.symm]
    · split
      · rename_i _ hk
        subst hk
        simp [Memory.read, h.symm]
      · by_cases hc : k = c <;> simp [Memory.read, hc, ih]

/-- A read after a write to the same address gives the byte written (spec R69). -/
theorem Memory.read_write_same (m : Memory) (a : Nat) (b : Byte) : (m.write a b).read a = b := by
  by_cases h : b = Memory.unlisted
  · simp only [Memory.write, h, if_true, read_erase_same]
  · simp only [Memory.write, h, if_false, read_insert_same]

/-- A write leaves every other address alone. -/
theorem Memory.read_write_other (m : Memory) {a c : Nat} (b : Byte) (h : c ≠ a) :
    (m.write a b).read c = m.read c := by
  by_cases hb : b = Memory.unlisted
  · simp only [Memory.write, hb, if_true, read_erase_other m h]
  · simp only [Memory.write, hb, if_false, read_insert_other m b h]

theorem Memory.read_write (m : Memory) (a c : Nat) (b : Byte) :
    (m.write a b).read c = if c = a then b else m.read c := by
  by_cases h : c = a
  · subst h
    simp [read_write_same]
  · simp [read_write_other m b h, h]

/-! ### The canonical form -/

theorem Memory.wfFrom_mono {lo hi : Nat} {m : Memory} (h : lo ≤ hi) (hw : Memory.wfFrom hi m = true) :
    Memory.wfFrom lo m = true := by
  cases m with
  | nil => rfl
  | cons e rest =>
    obtain ⟨k, v⟩ := e
    simp only [Memory.wfFrom, Bool.and_eq_true, decide_eq_true_eq] at hw ⊢
    exact ⟨⟨⟨h.trans hw.1.1.1, hw.1.1.2⟩, hw.1.2⟩, hw.2⟩

theorem Memory.wfFrom_erase {lo : Nat} (m : Memory) (a : Nat) (hw : Memory.wfFrom lo m = true) :
    Memory.wfFrom lo (m.erase a) = true := by
  induction m generalizing lo with
  | nil => rfl
  | cons e rest ih =>
    obtain ⟨k, v⟩ := e
    simp only [Memory.wfFrom, Bool.and_eq_true, decide_eq_true_eq] at hw
    by_cases h : k = a
    · simp only [Memory.erase, h, if_true]
      exact wfFrom_mono (Nat.le_succ_of_le hw.1.1.1) (h ▸ ih hw.2)
    · simp only [Memory.erase, h, if_false, Memory.wfFrom, Bool.and_eq_true, decide_eq_true_eq]
      exact ⟨hw.1, ih hw.2⟩

theorem Memory.wfFrom_insert {lo : Nat} (m : Memory) {a : Nat} {b : Byte} (hl : lo ≤ a)
    (ha : a < Memory.size) (hb : b ≠ Memory.unlisted) (hw : Memory.wfFrom lo m = true) :
    Memory.wfFrom lo (m.insert a b) = true := by
  induction m generalizing lo with
  | nil => simp [Memory.insert, Memory.wfFrom, hl, ha, hb]
  | cons e rest ih =>
    obtain ⟨k, v⟩ := e
    simp only [Memory.wfFrom, Bool.and_eq_true, decide_eq_true_eq, bne_iff_ne] at hw
    simp only [Memory.insert]
    split
    · simp only [Memory.wfFrom, Bool.and_eq_true, decide_eq_true_eq, bne_iff_ne]
      exact ⟨⟨⟨hl, ha⟩, hb⟩, ⟨⟨by omega, hw.1.1.2⟩, hw.1.2⟩, hw.2⟩
    · split
      · rename_i _ hk
        subst hk
        simp only [Memory.wfFrom, Bool.and_eq_true, decide_eq_true_eq, bne_iff_ne]
        exact ⟨⟨⟨hl, ha⟩, hb⟩, hw.2⟩
      · simp only [Memory.wfFrom, Bool.and_eq_true, decide_eq_true_eq, bne_iff_ne]
        exact ⟨hw.1, ih (by omega) hw.2⟩

/-- Every write keeps the canonical form. -/
theorem Memory.wf_write (m : Memory) {a : Nat} (b : Byte) (ha : a < Memory.size) (hw : m.wf = true) :
    (m.write a b).wf = true := by
  by_cases hb : b = Memory.unlisted
  · simp only [Memory.wf, Memory.write, hb, if_true]
    exact wfFrom_erase m a hw
  · simp only [Memory.wf, Memory.write, hb, if_false]
    exact wfFrom_insert m (Nat.zero_le a) ha hb hw

theorem State.reset_mem_wf : State.reset.mem.wf = true := rfl

end Sys2Proof.Machine
end

