-- ==== Sys2Proof/Laws/Access.lean ====
section
/-! SUPPORT. What the multi-byte accesses and the patch do: which bytes they write, what reads back, and every field
they leave alone. -/

namespace Sys2Proof.Machine

/-! ### Which bytes an access covers -/

theorem Touches.zero (seg off : Word) (a : Nat) : ¬ Touches seg off 0 a := fun ⟨_, h, _⟩ => by omega

theorem Touches.succ_iff (seg off : Word) (n a : Nat) :
    Touches seg off (n + 1) a ↔ a = linear seg off ∨ Touches seg (off + 1) n a := by
  constructor
  · rintro ⟨k, hk, rfl⟩
    cases k with
    | zero => left; simp
    | succ j =>
      right
      refine ⟨j, by omega, ?_⟩
      rw [show BitVec.ofNat 16 (j + 1) = BitVec.ofNat 16 j + 1 from by simp [BitVec.ofNat_add]]
      congr 1
      ac_rfl
  · rintro (rfl | ⟨j, hj, rfl⟩)
    · exact ⟨0, by omega, by simp⟩
    · refine ⟨j + 1, by omega, ?_⟩
      rw [show BitVec.ofNat 16 (j + 1) = BitVec.ofNat 16 j + 1 from by simp [BitVec.ofNat_add]]
      congr 1
      ac_rfl

theorem Touches.self (seg off : Word) {n k : Nat} (h : k < n) :
    Touches seg off n (linear seg (off + BitVec.ofNat 16 k)) := ⟨k, h, rfl⟩

/-- The bytes of an access of at most 2^16 bytes are at different addresses. -/
theorem linear_add_inj (seg off : Word) {j k : Nat} (hj : j < 65536) (hk : k < 65536)
    (h : linear seg (off + BitVec.ofNat 16 j) = linear seg (off + BitVec.ofNat 16 k)) : j = k := by
  have := congrArg BitVec.toNat (add_left_cancel (linear_inj seg h))
  simpa [Nat.mod_eq_of_lt hj, Nat.mod_eq_of_lt hk] using this

/-! ### writeLE -/

/-- A multi-byte write changes memory only. -/
theorem State.writeLE_eq (s : State) (seg off : Word) (n v : Nat) :
    s.writeLE seg off n v = { s with mem := (s.writeLE seg off n v).mem } := by
  induction n generalizing s off v with
  | zero => rfl
  | succ n ih =>
    simp only [State.writeLE]
    rw [ih]
    rfl

@[simp] theorem State.writeLE_block (s : State) (seg off : Word) (n v : Nat) :
    (s.writeLE seg off n v).block = s.block := by rw [writeLE_eq]
@[simp] theorem State.writeLE_guest (s : State) (seg off : Word) (n v : Nat) :
    (s.writeLE seg off n v).guest = s.guest := by rw [writeLE_eq]
@[simp] theorem State.writeLE_inTransaction (s : State) (seg off : Word) (n v : Nat) :
    (s.writeLE seg off n v).inTransaction = s.inTransaction := by rw [writeLE_eq]
@[simp] theorem State.writeLE_params (s : State) (seg off : Word) (n v : Nat) :
    (s.writeLE seg off n v).params = s.params := by rw [writeLE_eq]
@[simp] theorem State.writeLE_draws (s : State) (seg off : Word) (n v : Nat) :
    (s.writeLE seg off n v).draws = s.draws := by rw [writeLE_eq]

/-- The memory a multi-byte write leaves depends on the memory it starts from alone. -/
theorem State.writeLE_mem_congr {s t : State} (h : t.mem = s.mem) (seg off : Word) (n v : Nat) :
    (t.writeLE seg off n v).mem = (s.writeLE seg off n v).mem := by
  induction n generalizing s t off v with
  | zero => exact h
  | succ n ih => exact ih (by simp [h]) _ _

/-- Every byte an access does not cover reads as before. -/
theorem State.writeLE_read_other (s : State) (seg off : Word) (n v : Nat) {a : Nat}
    (h : ¬ Touches seg off n a) : (s.writeLE seg off n v).mem.read a = s.mem.read a := by
  induction n generalizing s off v with
  | zero => rfl
  | succ n ih =>
    rw [Touches.succ_iff, not_or] at h
    simp only [State.writeLE]
    rw [ih _ _ _ h.2, State.write8_mem, Memory.read_write_other _ _ h.1]

/-- Byte k of the value stands at offset + k afterwards (spec R64, R65). -/
theorem State.writeLE_read_byte (s : State) (seg off : Word) {n : Nat} (v : Nat) (hn : n ≤ 65536) {k : Nat}
    (hk : k < n) :
    (s.writeLE seg off n v).mem.read (linear seg (off + BitVec.ofNat 16 k)) = BitVec.ofNat 8 (v / 256 ^ k) := by
  induction n generalizing s off v k with
  | zero => omega
  | succ n ih =>
    simp only [State.writeLE]
    cases k with
    | zero =>
      rw [State.writeLE_read_other]
      · simp [Memory.read_write_same]
      · rintro ⟨j, hj, h⟩
        rw [show off + 1 + BitVec.ofNat 16 j = off + BitVec.ofNat 16 (j + 1) from by
          simp [BitVec.ofNat_add]; ac_rfl] at h
        have := linear_add_inj seg off (by omega) (by omega) h
        omega
    | succ k =>
      rw [show off + BitVec.ofNat 16 (k + 1) = off + 1 + BitVec.ofNat 16 k from by
          simp [BitVec.ofNat_add]; ac_rfl,
        ih _ _ _ (by omega) (by omega), Nat.pow_succ', Nat.div_div_eq_div_mul]

/-- A multi-byte read depends on the bytes it covers alone. -/
theorem State.readLE_congr {s t : State} {seg off : Word} {n : Nat}
    (h : ∀ a, Touches seg off n a → t.mem.read a = s.mem.read a) :
    t.readLE seg off n = s.readLE seg off n := by
  induction n generalizing off with
  | zero => rfl
  | succ n ih =>
    simp only [State.readLE, State.read8]
    rw [ih fun a ha => h a ((Touches.succ_iff ..).2 (.inr ha)), h _ ((Touches.succ_iff ..).2 (.inl rfl))]

/-- A value written is read back, its low 8n bits (spec R65, R69). -/
theorem State.readLE_writeLE (s : State) (seg off : Word) {n : Nat} (v : Nat) (hn : n ≤ 65536) :
    (s.writeLE seg off n v).readLE seg off n = v % 256 ^ n := by
  induction n generalizing s off v with
  | zero => simp [State.readLE, Nat.mod_one]
  | succ n ih =>
    have h0 : (s.writeLE seg off (n + 1) v).read8 seg off = BitVec.ofNat 8 v := by
      simpa [State.read8] using s.writeLE_read_byte seg off v hn (Nat.succ_pos n)
    rw [State.readLE, h0, State.writeLE, ih _ _ _ (by omega), BitVec.toNat_ofNat,
      show 256 ^ (n + 1) = 256 * 256 ^ n from Nat.pow_succ', Nat.mod_mul]

theorem State.writeLE_wf (s : State) (seg off : Word) (n v : Nat) (h : s.mem.wf = true) :
    (s.writeLE seg off n v).mem.wf = true := by
  induction n generalizing s off v with
  | zero => exact h
  | succ n ih => exact ih _ _ _ (Memory.wf_write _ _ (linear_lt ..) h)

/-! ### Words -/

theorem State.read16_congr {s t : State} {seg off : Word}
    (h : ∀ a, Touches seg off 2 a → t.mem.read a = s.mem.read a) : t.read16 seg off = s.read16 seg off := by
  rw [State.read16, State.read16, readLE_congr h]

theorem State.read16_write16 (s : State) (seg off w : Word) : (s.write16 seg off w).read16 seg off = w := by
  rw [State.read16, State.write16, readLE_writeLE _ _ _ _ (by omega)]
  apply BitVec.eq_of_toNat_eq
  have := w.isLt
  simp only [BitVec.toNat_ofNat]
  omega

theorem State.write16_eq (s : State) (seg off w : Word) :
    s.write16 seg off w = { s with mem := (s.write16 seg off w).mem } := s.writeLE_eq ..

@[simp] theorem State.write16_block (s : State) (seg off w : Word) :
    (s.write16 seg off w).block = s.block := s.writeLE_block ..
@[simp] theorem State.write16_guest (s : State) (seg off w : Word) :
    (s.write16 seg off w).guest = s.guest := s.writeLE_guest ..
@[simp] theorem State.write16_inTransaction (s : State) (seg off w : Word) :
    (s.write16 seg off w).inTransaction = s.inTransaction := s.writeLE_inTransaction ..
@[simp] theorem State.write16_params (s : State) (seg off w : Word) :
    (s.write16 seg off w).params = s.params := s.writeLE_params ..
@[simp] theorem State.write16_draws (s : State) (seg off w : Word) :
    (s.write16 seg off w).draws = s.draws := s.writeLE_draws ..

/-! ### Data stores -/

@[simp] theorem State.store_block (s : State) (m : MemOperand) (n v : Nat) :
    (s.store m n v).block = s.block := s.writeLE_block ..
@[simp] theorem State.store_guest (s : State) (m : MemOperand) (n v : Nat) :
    (s.store m n v).guest = s.guest := s.writeLE_guest ..
@[simp] theorem State.store_inTransaction (s : State) (m : MemOperand) (n v : Nat) :
    (s.store m n v).inTransaction = s.inTransaction := s.writeLE_inTransaction ..
@[simp] theorem State.store_params (s : State) (m : MemOperand) (n v : Nat) :
    (s.store m n v).params = s.params := s.writeLE_params ..
@[simp] theorem State.store_draws (s : State) (m : MemOperand) (n v : Nat) :
    (s.store m n v).draws = s.draws := s.writeLE_draws ..

/-! ### The patch -/

@[simp] theorem State.patch_block (s : State) (k : Nat) : (s.patch k).block = s.block := s.write16_block ..
@[simp] theorem State.patch_guest (s : State) (k : Nat) : (s.patch k).guest = s.guest := s.write16_guest ..
@[simp] theorem State.patch_inTransaction (s : State) (k : Nat) :
    (s.patch k).inTransaction = s.inTransaction := s.write16_inTransaction ..
@[simp] theorem State.patch_params (s : State) (k : Nat) : (s.patch k).params = s.params := s.write16_params ..
@[simp] theorem State.patch_draws (s : State) (k : Nat) : (s.patch k).draws = s.draws := s.write16_draws ..

/-- The patch adds to RetIP modulo 2^16 (spec R180). -/
@[simp] theorem State.patch_retIP (s : State) (k : Nat) : (s.patch k).retIP = s.retIP + BitVec.ofNat 16 k := by
  simp only [State.retIP, patch_guest]
  exact s.read16_write16 ..

/-- The patch writes the RetIP word alone (spec R172, R180). -/
theorem State.patch_read_other (s : State) (k : Nat) {a : Nat} (h : ¬ s.RetIPByte a) :
    (s.patch k).mem.read a = s.mem.read a := s.writeLE_read_other _ _ _ _ h

theorem State.patch_wf (s : State) (k : Nat) (h : s.mem.wf = true) : (s.patch k).mem.wf = true :=
  s.writeLE_wf _ _ _ _ h

/-- RetIP depends on the guest's stack pointer and the two bytes there alone. -/
theorem State.retIP_congr {s t : State} (hg : t.guest = s.guest)
    (h : ∀ a, s.RetIPByte a → t.mem.read a = s.mem.read a) : t.retIP = s.retIP := by
  simp only [State.retIP, hg]
  exact read16_congr h

/-- A patch over a rule that changed no memory and no guest register. -/
theorem State.onlyPatched_of_mem {s t : State} (hm : t.mem = s.mem) (hg : t.guest = s.guest) (k : Nat) :
    s.OnlyPatched (t.patch k) k := by
  refine ⟨?_, fun a ha => ?_⟩
  · rw [patch_retIP, retIP_congr hg fun a _ => by rw [hm]]
  · rw [patch_read_other _ _ (by simpa only [State.RetIPByte, hg] using ha), hm]

/-- A patch over a data store. -/
theorem State.storedAndPatched {s t : State} (m : MemOperand) {n : Nat} (v k : Nat) (hn : n ≤ 65536)
    (hm : t.mem = (s.store m n v).mem) (hg : t.guest = s.guest) : s.StoredAndPatched (t.patch k) m n v k := by
  have hr : ∀ a, ¬ s.RetIPByte a → (t.patch k).mem.read a = (s.store m n v).mem.read a := fun a ha => by
    rw [patch_read_other _ _ (by simpa only [State.RetIPByte, hg] using ha), hm]
  refine ⟨fun j hj hj' => ?_, fun a ha hm' => ?_, fun h => ?_⟩
  · rw [hr _ hj']
    exact s.writeLE_read_byte _ _ _ hn hj
  · rw [hr _ ha]
    exact s.writeLE_read_other _ _ _ _ hm'
  · rw [patch_retIP, retIP_congr hg fun a ha => ?_]
    rw [hm]
    exact s.writeLE_read_other _ _ _ _ (h a ha)

end Sys2Proof.Machine
end

