-- ==== Sys2Proof/Laws/Stack.lean ====
section
/-! SUPPORT. The fields of the status word, the register stack and the tag word. -/

namespace Sys2Proof.Machine

/-! ### The status word -/

theorem getLsbD_swWithTop (sw : Word) (t : BitVec 3) (k : Nat) :
    (swWithTop sw t).getLsbD k = if 11 ≤ k ∧ k < 14 then t.getLsbD (k - 11) else sw.getLsbD k := by
  simp only [swWithTop, BitVec.getLsbD_append, BitVec.getLsbD_extractLsb']
  by_cases h1 : k < 11
  · simp [h1, show ¬ 11 ≤ k by omega]
  · by_cases h2 : k < 14
    · simp [h1, h2, show 11 ≤ k by omega, show k - 11 < 3 by omega]
    · by_cases h3 : k < 16
      · simp [h1, h2, show ¬ k - 11 < 3 by omega, show k - 11 - 3 < 2 by omega,
          show 14 + (k - 11 - 3) = k by omega]
      · simp [h1, h2, show ¬ k - 11 < 3 by omega, show ¬ k - 11 - 3 < 2 by omega,
          BitVec.getLsbD_of_ge sw k (by omega)]

@[simp] theorem swTop_swWithTop (sw : Word) (t : BitVec 3) : swTop (swWithTop sw t) = t := by
  apply BitVec.eq_of_getLsbD_eq
  intro k hk
  simp only [swTop, BitVec.getLsbD_extractLsb', getLsbD_swWithTop]
  simp [hk, show 11 + k < 14 by omega]

@[simp] theorem swWithTop_swWithTop (sw : Word) (t u : BitVec 3) :
    swWithTop (swWithTop sw t) u = swWithTop sw u := by
  apply BitVec.eq_of_getLsbD_eq
  intro k _
  simp only [getLsbD_swWithTop]
  split <;> rfl

@[simp] theorem swWithTop_swTop (sw : Word) : swWithTop sw (swTop sw) = sw := by
  apply BitVec.eq_of_getLsbD_eq
  intro k _
  simp only [getLsbD_swWithTop, swTop, BitVec.getLsbD_extractLsb']
  split
  · rename_i h
    simp [show k - 11 < 3 by omega, show 11 + (k - 11) = k by omega]
  · rfl

theorem getLsbD_swWithBit (sw : Word) (j : Nat) (b : Bool) (k : Nat) :
    (swWithBit sw j b).getLsbD k = if k = j ∧ k < 16 then b else sw.getLsbD k := by
  by_cases hk : k < 16
  · by_cases hj : k = j
    · subst hj
      cases b <;> simp [swWithBit, hk]
    · cases b <;> simp [swWithBit, hk, hj]
  · simp [hk, BitVec.getLsbD_of_ge _ k (Nat.le_of_not_lt hk)]

theorem getLsbD_swSetC320 (sw : Word) (c3 c2 c0 : Bool) (k : Nat) :
    (swSetC320 sw c3 c2 c0).getLsbD k =
      if k = 8 then c0 else if k = 10 then c2 else if k = 14 then c3 else sw.getLsbD k := by
  simp only [swSetC320, getLsbD_swWithBit]
  by_cases h8 : k = 8
  · simp [h8]
  · by_cases h10 : k = 10
    · simp [h10]
    · by_cases h14 : k = 14 <;> simp [h8, h10, h14]

/-- Writing bits outside SW[13:11] keeps TOP. -/
theorem swTop_congr {sw sw' : Word} (h : ∀ k, 11 ≤ k → k < 14 → sw'.getLsbD k = sw.getLsbD k) :
    swTop sw' = swTop sw := by
  apply BitVec.eq_of_getLsbD_eq
  intro k hk
  simp only [swTop, BitVec.getLsbD_extractLsb', hk, decide_true, Bool.true_and]
  exact h _ (by omega) (by omega)

@[simp] theorem swTop_swSetC320 (sw : Word) (c3 c2 c0 : Bool) : swTop (swSetC320 sw c3 c2 c0) = swTop sw :=
  swTop_congr fun k _ _ => by
    rw [getLsbD_swSetC320]
    simp [show k ≠ 8 by omega, show k ≠ 10 by omega, show k ≠ 14 by omega]

@[simp] theorem swTop_swCompare (sw : Word) (r : Relation) : swTop (swCompare sw r) = swTop sw := by
  cases r <;> simp [swCompare]

@[simp] theorem swTop_swWithBit_low (sw : Word) {j : Nat} (h : j < 11) (b : Bool) :
    swTop (swWithBit sw j b) = swTop sw :=
  swTop_congr fun k _ _ => by
    rw [getLsbD_swWithBit]
    simp [show k ≠ j by omega]

@[simp] theorem swTop_swSetC1 (sw : Word) (b : Bool) : swTop (swSetC1 sw b) = swTop sw :=
  swTop_swWithBit_low sw (by omega) b

@[simp] theorem swTop_swSetC2 (sw : Word) (b : Bool) : swTop (swSetC2 sw b) = swTop sw :=
  swTop_swWithBit_low sw (by omega) b

@[simp] theorem swTop_swFxam (sw : Word) (c : SubnormalClass) (t : Tag) (v : Double) :
    swTop (swFxam sw c t v) = swTop sw := by simp [swFxam]

theorem getLsbD_swClearExceptions (sw : Word) (k : Nat) :
    (swClearExceptions sw).getLsbD k = (sw.getLsbD k && decide (8 ≤ k ∧ k < 15)) := by
  by_cases hk : k < 16
  · simp only [swClearExceptions, BitVec.getLsbD_and]
    congr 1
    exact (by decide : ∀ k : Fin 16, (0x7F00 : Word).getLsbD k.val = decide (8 ≤ k.val ∧ k.val < 15)) ⟨k, hk⟩
  · simp [BitVec.getLsbD_of_ge _ k (Nat.le_of_not_lt hk)]

@[simp] theorem swTop_swClearExceptions (sw : Word) : swTop (swClearExceptions sw) = swTop sw :=
  swTop_congr fun k _ _ => by
    rw [getLsbD_swClearExceptions]
    simp [show 8 ≤ k by omega, show k < 15 by omega]

/-! ### The register stack -/

@[simp] theorem Block.top_withTop (b : Block) (t : BitVec 3) : (b.withTop t).top = t := swTop_swWithTop ..
@[simp] theorem Block.top_setReg (b : Block) (p : BitVec 3) (v : Double) : (b.setReg p v).top = b.top := (rfl)
@[simp] theorem Block.top_setTag (b : Block) (p : BitVec 3) (t : Tag) : (b.setTag p t).top = b.top := (rfl)
@[simp] theorem Block.top_setST (b : Block) (i : BitVec 3) (v : Double) : (b.setST i v).top = b.top := (rfl)
@[simp] theorem Block.top_free (b : Block) (i : BitVec 3) : (b.free i).top = b.top := (rfl)
@[simp] theorem Block.top_compare (b : Block) (x y : Double) : (b.compare x y).top = b.top :=
  swTop_swCompare ..
@[simp] theorem Block.top_incSTP (b : Block) : b.incSTP.top = b.top + 1 := swTop_swWithTop ..
@[simp] theorem Block.top_decSTP (b : Block) : b.decSTP.top = b.top - 1 := swTop_swWithTop ..
@[simp] theorem Block.top_push (b : Block) (v : Double) : (b.push v).top = b.top - 1 := by
  simp [Block.push]
@[simp] theorem Block.top_pop (b : Block) : b.pop.top = b.top + 1 := by simp [Block.pop]

@[simp] theorem Block.reg_withTop (b : Block) (t p : BitVec 3) : (b.withTop t).reg p = b.reg p := (rfl)
@[simp] theorem Block.tag_withTop (b : Block) (t p : BitVec 3) : (b.withTop t).tag p = b.tag p := (rfl)
@[simp] theorem Block.reg_setTag (b : Block) (q p : BitVec 3) (t : Tag) : (b.setTag q t).reg p = b.reg p := (rfl)
@[simp] theorem Block.tag_setReg (b : Block) (q p : BitVec 3) (v : Double) : (b.setReg q v).tag p = b.tag p := (rfl)

theorem Block.reg_setReg (b : Block) (q p : BitVec 3) (v : Double) :
    (b.setReg q v).reg p = if p = q then v else b.reg p := by
  simp only [Block.reg, Block.setReg, Vector.getElem_set, BitVec.toNat_inj, eq_comm (a := q)]

theorem Block.tag_setTag (b : Block) (q p : BitVec 3) (t : Tag) :
    (b.setTag q t).tag p = if p = q then t else b.tag p := by
  simp only [Block.tag, Block.setTag, Vector.getElem_set, BitVec.toNat_inj, eq_comm (a := q)]

theorem Block.reg_setST (b : Block) (i p : BitVec 3) (v : Double) :
    (b.setST i v).reg p = if p = b.phys i then v else b.reg p := by
  simp [Block.setST, Block.reg_setReg]

theorem Block.tag_setST (b : Block) (i p : BitVec 3) (v : Double) :
    (b.setST i v).tag p = if p = b.phys i then tagOf v else b.tag p := by
  simp [Block.setST, Block.tag_setTag]

@[simp] theorem Block.reg_free (b : Block) (i p : BitVec 3) : (b.free i).reg p = b.reg p := (rfl)
theorem Block.tag_free (b : Block) (i p : BitVec 3) :
    (b.free i).tag p = if p = b.phys i then Tag.empty else b.tag p := Block.tag_setTag ..

theorem Block.phys_zero (b : Block) : b.phys 0 = b.top := by simp [Block.phys]
@[simp] theorem Block.phys_ofNat_zero (b : Block) : b.phys 0#3 = b.top := b.phys_zero

theorem Block.reg_push (b : Block) (p : BitVec 3) (v : Double) :
    (b.push v).reg p = if p = b.top - 1 then v else b.reg p := by
  simp only [Block.push, Block.reg_setST, Block.phys_zero, Block.top_decSTP]
  rfl

theorem Block.tag_push (b : Block) (p : BitVec 3) (v : Double) :
    (b.push v).tag p = if p = b.top - 1 then tagOf v else b.tag p := by
  simp only [Block.push, Block.tag_setST, Block.phys_zero, Block.top_decSTP]
  rfl

@[simp] theorem Block.reg_pop (b : Block) (p : BitVec 3) : b.pop.reg p = b.reg p := (rfl)
theorem Block.tag_pop (b : Block) (p : BitVec 3) :
    b.pop.tag p = if p = b.top then Tag.empty else b.tag p := by
  have : b.pop.tag p = (b.free 0).tag p := rfl
  rw [this, Block.tag_free, Block.phys_zero]

@[simp] theorem Block.sw_push (b : Block) (v : Double) : (b.push v).sw = swWithTop b.sw (b.top - 1) := (rfl)
@[simp] theorem Block.cw_push (b : Block) (v : Double) : (b.push v).cw = b.cw := (rfl)
@[simp] theorem Block.sw_pop (b : Block) : b.pop.sw = swWithTop b.sw (b.top + 1) := (rfl)
@[simp] theorem Block.cw_pop (b : Block) : b.pop.cw = b.cw := (rfl)

@[simp] theorem Block.reg_compare (b : Block) (x y : Double) (p : BitVec 3) :
    (b.compare x y).reg p = b.reg p := rfl
@[simp] theorem Block.tag_compare (b : Block) (x y : Double) (p : BitVec 3) :
    (b.compare x y).tag p = b.tag p := rfl

/-! ### The tag word -/

@[simp] theorem Tag.ofCode_code (t : Tag) : Tag.ofCode t.code = t := by cases t <;> rfl

@[simp] theorem Tag.code_ofCode (c : BitVec 2) : (Tag.ofCode c).code = c := by
  revert c
  decide

/-- TW[2p+1:2p] is the code of TAG[p] (spec R29). -/
theorem tagWord_field (t : Vector Tag 8) (p : Fin 8) : (tagWord t).extractLsb' (2 * p.val) 2 = t[p].code := by
  apply BitVec.eq_of_getLsbD_eq
  intro k hk
  simp only [BitVec.getLsbD_extractLsb', hk, decide_true, Bool.true_and, tagWord, BitVec.getLsbD_append]
  fin_cases p <;> (obtain rfl | rfl : k = 0 ∨ k = 1 := by omega) <;> simp

@[simp] theorem tagsOfWord_tagWord (t : Vector Tag 8) : tagsOfWord (tagWord t) = t := by
  apply Vector.ext
  intro i hi
  simp only [tagsOfWord, Vector.getElem_ofFn, tagWord_field t ⟨i, hi⟩, Tag.ofCode_code]
  rfl

end Sys2Proof.Machine
end

