-- ==== Sys2Proof/Laws/Results.lean ====
section
/-! SUPPORT. What the shared operations of the instruction rules do: a drawn NaN is a NaN, a result written to a
slot, a push, and the end of a transaction. -/

namespace Sys2Proof.Machine

/-! ### Draws -/

/-- Any 64 bits become a NaN. -/
theorem isNaN_toNaN64 (v : BitVec 64) : F64.isNaN (toNaN64 v) = true := by
  unfold toNaN64
  split
  · assumption
  · have he : (v ||| 0x7FF8000000000000).extractLsb' 52 11 = 2047#11 := by
      apply BitVec.eq_of_getLsbD_eq
      intro k hk
      have : (0x7FF8000000000000 : BitVec 64).getLsbD (52 + k) = true :=
        (by decide : ∀ k : Fin 11, (0x7FF8000000000000 : BitVec 64).getLsbD (52 + k.val) = true) ⟨k, hk⟩
      have h1 : (2047#11).getLsbD k = true :=
        (by decide : ∀ k : Fin 11, (2047#11).getLsbD k.val = true) ⟨k, hk⟩
      simp only [BitVec.getLsbD_extractLsb', hk, decide_true, BitVec.getLsbD_or, this, h1, Bool.or_true, Bool.and_true]
    have hf : (v ||| 0x7FF8000000000000).extractLsb' 0 52 ≠ 0#52 := by
      intro h
      have := congrArg (fun x => BitVec.getLsbD x 51) h
      simp at this
    simp only [F64.isNaN, F64.expo, F64.frac, he, Bool.and_eq_true, beq_iff_eq, bne_iff_ne, ne_eq]
    refine ⟨rfl, fun h => hf (BitVec.eq_of_toNat_eq ?_)⟩
    simpa using h

/-- A settled result is a pattern of the result (spec R132). -/
theorem State.gives_settle (s : State) (r : Option Double) : Gives r (s.settle r) := by
  cases r with
  | none => exact isNaN_toNaN64 _
  | some w => rfl

@[simp] theorem State.settled_block (s : State) (r : Option Double) : (s.settled r).block = s.block := by
  cases r <;> rfl
@[simp] theorem State.settled_guest (s : State) (r : Option Double) : (s.settled r).guest = s.guest := by
  cases r <;> rfl
@[simp] theorem State.settled_mem (s : State) (r : Option Double) : (s.settled r).mem = s.mem := by
  cases r <;> rfl
@[simp] theorem State.settled_params (s : State) (r : Option Double) : (s.settled r).params = s.params := by
  cases r <;> rfl
@[simp] theorem State.settled_inTransaction (s : State) (r : Option Double) :
    (s.settled r).inTransaction = s.inTransaction := by cases r <;> rfl

/-! ### Results -/

@[simp] theorem State.setResult_block (s : State) (i : BitVec 3) (r : Option Double) :
    (s.setResult i r).block = s.block.setST i (s.settle r) := by simp [State.setResult]
@[simp] theorem State.setResult_guest (s : State) (i : BitVec 3) (r : Option Double) :
    (s.setResult i r).guest = s.guest := by simp [State.setResult]
@[simp] theorem State.setResult_mem (s : State) (i : BitVec 3) (r : Option Double) :
    (s.setResult i r).mem = s.mem := by simp [State.setResult]
@[simp] theorem State.setResult_params (s : State) (i : BitVec 3) (r : Option Double) :
    (s.setResult i r).params = s.params := by simp [State.setResult]
@[simp] theorem State.setResult_inTransaction (s : State) (i : BitVec 3) (r : Option Double) :
    (s.setResult i r).inTransaction = s.inTransaction := by simp [State.setResult]

@[simp] theorem State.pushResult_block (s : State) (r : Option Double) :
    (s.pushResult r).block = s.block.push (s.settle r) := by simp [State.pushResult]
@[simp] theorem State.pushResult_guest (s : State) (r : Option Double) :
    (s.pushResult r).guest = s.guest := by simp [State.pushResult]
@[simp] theorem State.pushResult_mem (s : State) (r : Option Double) :
    (s.pushResult r).mem = s.mem := by simp [State.pushResult]
@[simp] theorem State.pushResult_params (s : State) (r : Option Double) :
    (s.pushResult r).params = s.params := by simp [State.pushResult]
@[simp] theorem State.pushResult_inTransaction (s : State) (r : Option Double) :
    (s.pushResult r).inTransaction = s.inTransaction := by simp [State.pushResult]

/-- A result is written to its slot, with its tag, and to no other. -/
theorem State.writesSlot_setResult (s : State) (i : BitVec 3) (r : Option Double) :
    s.WritesSlot (s.setResult i r) (s.block.phys i) r s.block.sw := by
  refine ⟨?_, ?_, fun p hp => ?_, ?_, ?_⟩
  · simpa [Block.reg_setST] using s.gives_settle r
  · simp [Block.reg_setST, Block.tag_setST]
  · rw [List.mem_singleton] at hp
    simp [Block.reg_setST, Block.tag_setST, hp]
  · simp
  · simp

/-- A pushed result stands in the new top slot. -/
theorem State.writesSlot_pushResult (s : State) (r : Option Double) :
    s.WritesSlot (s.pushResult r) (s.block.top - 1) r (swWithTop s.block.sw (s.block.top - 1)) := by
  refine ⟨?_, ?_, fun p hp => ?_, ?_, ?_⟩
  · simpa [Block.reg_push] using s.gives_settle r
  · simp [Block.reg_push, Block.tag_push]
  · rw [List.mem_singleton] at hp
    rw [pushResult_block, Block.reg_push, Block.tag_push, if_neg hp, if_neg hp]
    exact ⟨rfl, rfl⟩
  · simp
  · simp

/-- What a transaction that stores no data leaves outside the block. -/
theorem State.kept_complete {s t : State} (hm : t.mem = s.mem) (hg : t.guest = s.guest) (hp : t.params = s.params)
    (hi : t.inTransaction = s.inTransaction) (k : Nat) :
    s.OutsideKept (t.patch k) ∧ s.OnlyPatched (t.patch k) k :=
  ⟨⟨by simp [hg], by simp [hp], by simp [hi]⟩, onlyPatched_of_mem hm hg k⟩

/-- The patch touches nothing a slot statement speaks of. -/
theorem State.WritesSlot.patch {s t : State} {p : BitVec 3} {r : Option Double} {sw : Word}
    (h : s.WritesSlot t p r sw) (k : Nat) : s.WritesSlot (t.patch k) p r sw := by
  simpa [State.WritesSlot] using h

end Sys2Proof.Machine
end

