-- ==== Sys2Proof/Laws/Rules.lean ====
section
/-! SUPPORT. Every transaction is its rule and then the patch, and what the shared rule shapes do. -/

namespace Sys2Proof.Machine

/-- The primary vector of a descriptor selects neither SEGOVR nor FWAIT (spec R183). -/
theorem instrOf_selected (e : Esc) (d : Descriptor) : (instrOf e d).selected = instrOf e d := by
  obtain ⟨op, o⟩ := d
  have hop : ∀ {P : BitVec 3 → Prop}, (∀ k : Fin 8, P ⟨k⟩) → ∀ x, P x := fun h ⟨x⟩ => h x
  cases o with
  | mem m => cases e <;> (revert op; refine hop fun k => ?_) <;> fin_cases k <;> rfl
  | reg rm =>
    cases e <;> (revert op rm; refine hop fun k => ?_; refine hop fun j => ?_) <;> fin_cases k <;> fin_cases j <;> rfl

/-- What every instruction does: its rule in the state it is entered in, then the patch by its skip count (spec R174,
R176, R178, R181). -/
theorem exec_rule (i : Instr) (s : State) :
    exec i s = .next ((ruleOf i.selected (s.ruleEntry i)).patch i.skipTotal) := by
  cases i <;> rfl

/-- The rule of a primary vector's descriptor and the patch (spec R174). -/
theorem exec_instrOf (e : Esc) (d : Descriptor) (s : State) :
    exec (instrOf e d) s = .next ((ruleOf (instrOf e d) (s.ruleEntry (instrOf e d))).patch
      (instrOf e d).skipTotal) := by
  rw [exec_rule, instrOf_selected]

/-! ### A NaN operand gives a NaN -/

theorem F64.isNaN_neg (x : Double) : F64.isNaN (F64.neg x) = F64.isNaN x := by
  have he : (F64.neg x).extractLsb' 52 11 = x.extractLsb' 52 11 := by
    apply BitVec.eq_of_getLsbD_eq
    intro k hk
    simp [F64.neg, BitVec.getLsbD_xor, hk,
      (by decide : ∀ k : Fin 11, (0x8000000000000000#64).getLsbD (52 + k.val) = false) ⟨k, hk⟩]
  have hf : (F64.neg x).extractLsb' 0 52 = x.extractLsb' 0 52 := by
    apply BitVec.eq_of_getLsbD_eq
    intro k hk
    simp [F64.neg, BitVec.getLsbD_xor, hk,
      (by decide : ∀ k : Fin 52, (0x8000000000000000#64).getLsbD k.val = false) ⟨k, hk⟩]
  simp only [F64.isNaN, F64.expo, F64.frac, he, hf]

theorem F64.add_nan_left {x : Double} (y : Double) (h : F64.isNaN x = true) : F64.add x y = none := by
  simp [F64.add, h]
theorem F64.add_nan_right (x : Double) {y : Double} (h : F64.isNaN y = true) : F64.add x y = none := by
  simp [F64.add, h]
theorem F64.sub_nan_left {x : Double} (y : Double) (h : F64.isNaN x = true) : F64.sub x y = none :=
  F64.add_nan_left _ h
theorem F64.sub_nan_right (x : Double) {y : Double} (h : F64.isNaN y = true) : F64.sub x y = none :=
  F64.add_nan_right _ (by rw [F64.isNaN_neg, h])
theorem F64.mul_nan_left {x : Double} (y : Double) (h : F64.isNaN x = true) : F64.mul x y = none := by
  simp [F64.mul, h]
theorem F64.mul_nan_right (x : Double) {y : Double} (h : F64.isNaN y = true) : F64.mul x y = none := by
  simp [F64.mul, h]
theorem F64.div_nan_left {x : Double} (y : Double) (h : F64.isNaN x = true) : F64.div x y = none := by
  simp [F64.div, h]
theorem F64.div_nan_right (x : Double) {y : Double} (h : F64.isNaN y = true) : F64.div x y = none := by
  simp [F64.div, h]
theorem F64.relation_nan_right (x : Double) {y : Double} (h : F64.isNaN y = true) :
    F64.relation x y = .unordered := by simp [F64.relation, h]

/-! ### The shapes of the rules -/

/-- Memory arithmetic (spec R190): the result goes to ST(0) and nothing else changes. -/
theorem State.arithMem_spec (s : State) (r : Option Double) {f : Double → Double → Option Double}
    (hf : ∀ x {v}, F64.isNaN v = true → f x v = none) (k : Nat) :
    s.WritesSlot ((s.arithMem r f).patch k) s.block.top (r.bind (f (s.block.getST 0))) s.block.sw ∧
    s.OutsideKept ((s.arithMem r f).patch k) ∧ s.OnlyPatched ((s.arithMem r f).patch k) k := by
  have hr : f (s.block.getST 0) (s.settle r) = r.bind (f (s.block.getST 0)) := by
    cases r with
    | none => exact hf _ (s.gives_settle none)
    | some v => rfl
  refine ⟨State.WritesSlot.patch ?_ k, kept_complete (by simp [arithMem]) (by simp [arithMem])
    (by simp [arithMem]) (by simp [arithMem]) k⟩
  have h := (s.settled r).writesSlot_setResult 0 (f (s.block.getST 0) (s.settle r))
  rw [hr, settled_block, Block.phys_zero] at h
  rw [arithMem, settled_block, hr]
  simpa only [State.WritesSlot, settled_block] using h

/-- Memory compare (spec R190): only SW changes. -/
theorem State.compareMem_block (s : State) (r : Option Double) :
    (s.compareMem r).block =
      { s.block with sw := swCompare s.block.sw (r.elim .unordered (F64.relation (s.block.getST 0))) } := by
  cases r with
  | none =>
    simp only [compareMem, onBlock_block, settled_block, Block.compare, Option.elim,
      F64.relation_nan_right _ (s.gives_settle none)]
  | some v => rfl

@[simp] theorem State.arithMem_kept (s : State) (r : Option Double) (f : Double → Double → Option Double) :
    (s.arithMem r f).mem = s.mem ∧ (s.arithMem r f).guest = s.guest ∧ (s.arithMem r f).params = s.params ∧
      (s.arithMem r f).inTransaction = s.inTransaction := by
  simp [arithMem]
@[simp] theorem State.compareMem_kept (s : State) (r : Option Double) :
    (s.compareMem r).mem = s.mem ∧ (s.compareMem r).guest = s.guest ∧ (s.compareMem r).params = s.params ∧
      (s.compareMem r).inTransaction = s.inTransaction := by
  simp [compareMem]
@[simp] theorem State.compareMemPop_kept (s : State) (r : Option Double) :
    (s.compareMemPop r).mem = s.mem ∧ (s.compareMemPop r).guest = s.guest ∧ (s.compareMemPop r).params = s.params ∧
      (s.compareMemPop r).inTransaction = s.inTransaction := by
  simp [compareMemPop]
@[simp] theorem State.arithReg_kept (s : State) (i : BitVec 3) (f : Double → Double → Option Double) :
    (s.arithReg i f).mem = s.mem ∧ (s.arithReg i f).guest = s.guest ∧ (s.arithReg i f).params = s.params ∧
      (s.arithReg i f).inTransaction = s.inTransaction := by
  simp [arithReg]
@[simp] theorem State.arithRegPop_kept (s : State) (i : BitVec 3) (f : Double → Double → Option Double) :
    (s.arithRegPop i f).mem = s.mem ∧ (s.arithRegPop i f).guest = s.guest ∧ (s.arithRegPop i f).params = s.params ∧
      (s.arithRegPop i f).inTransaction = s.inTransaction := by
  simp [arithRegPop]
@[simp] theorem State.loadPush_kept (s : State) (r : Option Double) :
    (s.loadPush r).mem = s.mem ∧ (s.loadPush r).guest = s.guest ∧ (s.loadPush r).params = s.params ∧
      (s.loadPush r).inTransaction = s.inTransaction := by
  simp [loadPush]
@[simp] theorem State.popTimesLog_kept (s : State) (log : Option Double) :
    (s.popTimesLog log).mem = s.mem ∧ (s.popTimesLog log).guest = s.guest ∧ (s.popTimesLog log).params = s.params ∧
      (s.popTimesLog log).inTransaction = s.inTransaction := by
  simp [popTimesLog]
@[simp] theorem State.popped_kept (s : State) :
    s.popped.mem = s.mem ∧ s.popped.guest = s.guest ∧ s.popped.params = s.params ∧
      s.popped.inTransaction = s.inTransaction ∧ s.popped.block = s.block.pop := by
  simp [popped]

@[simp] theorem State.writeFloat32_kept (s : State) (m : MemOperand) (x : Double) :
    (s.writeFloat32 m x).block = s.block ∧ (s.writeFloat32 m x).guest = s.guest ∧
      (s.writeFloat32 m x).params = s.params ∧ (s.writeFloat32 m x).inTransaction = s.inTransaction := by
  by_cases h : F64.isNaN x = true <;> simp [writeFloat32, h]
@[simp] theorem State.writeFloat64_kept (s : State) (m : MemOperand) (x : Double) :
    (s.writeFloat64 m x).block = s.block ∧ (s.writeFloat64 m x).guest = s.guest ∧
      (s.writeFloat64 m x).params = s.params ∧ (s.writeFloat64 m x).inTransaction = s.inTransaction := by
  by_cases h : F64.isNaN x = true <;> simp [writeFloat64, h]
@[simp] theorem State.writeFloat80_kept (s : State) (m : MemOperand) (x : Double) :
    (s.writeFloat80 m x).block = s.block ∧ (s.writeFloat80 m x).guest = s.guest ∧
      (s.writeFloat80 m x).params = s.params ∧ (s.writeFloat80 m x).inTransaction = s.inTransaction := by
  simp [writeFloat80]
@[simp] theorem State.writeInt16_kept (s : State) (m : MemOperand) (x : Double) :
    (s.writeInt16 m x).block = s.block ∧ (s.writeInt16 m x).guest = s.guest ∧
      (s.writeInt16 m x).params = s.params ∧ (s.writeInt16 m x).inTransaction = s.inTransaction := by
  simp [writeInt16]
@[simp] theorem State.writeInt32_kept (s : State) (m : MemOperand) (x : Double) :
    (s.writeInt32 m x).block = s.block ∧ (s.writeInt32 m x).guest = s.guest ∧
      (s.writeInt32 m x).params = s.params ∧ (s.writeInt32 m x).inTransaction = s.inTransaction := by
  simp [writeInt32]
@[simp] theorem State.writeInt64_kept (s : State) (m : MemOperand) (x : Double) :
    (s.writeInt64 m x).block = s.block ∧ (s.writeInt64 m x).guest = s.guest ∧
      (s.writeInt64 m x).params = s.params ∧ (s.writeInt64 m x).inTransaction = s.inTransaction := by
  simp [writeInt64]

/-- The block after each shape of rule. -/
theorem State.arithMem_block (s : State) (r : Option Double) (f : Double → Double → Option Double) :
    ∃ v, (s.arithMem r f).block = s.block.setST 0 v := ⟨_, by rw [arithMem, setResult_block, settled_block]⟩
theorem State.arithReg_block (s : State) (i : BitVec 3) (f : Double → Double → Option Double) :
    ∃ v, (s.arithReg i f).block = s.block.setST i v := ⟨_, by rw [arithReg, setResult_block]⟩
theorem State.arithRegPop_block (s : State) (i : BitVec 3) (f : Double → Double → Option Double) :
    ∃ v, (s.arithRegPop i f).block = (s.block.setST i v).pop :=
  ⟨_, by rw [arithRegPop, onBlock_block, arithReg, setResult_block]⟩
theorem State.compareMemPop_block (s : State) (r : Option Double) :
    (s.compareMemPop r).block = (s.compareMem r).block.pop := by rw [compareMemPop, onBlock_block]
theorem State.loadPush_block (s : State) (r : Option Double) :
    (s.loadPush r).block = s.block.push (s.settle r) := by rw [loadPush, pushResult_block]
theorem State.popTimesLog_block (s : State) (log : Option Double) :
    ∃ v, (s.popTimesLog log).block = s.block.pop.setST 0 v :=
  ⟨((s.settled log).onBlock Block.pop).settle (F64.mul (s.block.pop.getST 0) (s.settle log)), by
    simp only [popTimesLog, setResult_block, onBlock_block, settled_block]⟩

/-- A change of the block alone, and the patch. -/
theorem State.onBlock_complete (s : State) (f : Block → Block) (k : Nat) :
    s.OutsideKept ((s.onBlock f).patch k) ∧ s.OnlyPatched ((s.onBlock f).patch k) k :=
  kept_complete rfl rfl rfl rfl k

/-- A result written to a slot, and the patch. -/
theorem State.setResult_complete (s : State) (i : BitVec 3) (r : Option Double) (k : Nat) :
    s.WritesSlot ((s.setResult i r).patch k) (s.block.phys i) r s.block.sw ∧
    s.OutsideKept ((s.setResult i r).patch k) ∧ s.OnlyPatched ((s.setResult i r).patch k) k :=
  ⟨(s.writesSlot_setResult i r).patch k, kept_complete (by simp) (by simp) (by simp) (by simp) k⟩

/-- A result pushed, and the patch. -/
theorem State.pushResult_complete (s : State) (r : Option Double) (k : Nat) :
    s.WritesSlot ((s.pushResult r).patch k) (s.block.top - 1) r (swWithTop s.block.sw (s.block.top - 1)) ∧
    s.OutsideKept ((s.pushResult r).patch k) ∧ s.OnlyPatched ((s.pushResult r).patch k) k :=
  ⟨(s.writesSlot_pushResult r).patch k, kept_complete (by simp) (by simp) (by simp) (by simp) k⟩

/-- A state `u` with the memory a data store leaves over `s` (`t` differs from `s` in the block alone), and the
patch. -/
theorem State.store_complete (s t : State) {u : State} (m : MemOperand) {n v : Nat} (k : Nat) (hn : n ≤ 65536)
    (hm : t.mem = s.mem) (ht : t.guest = s.guest) (hu : u.mem = (t.store m n v).mem) (hg : u.guest = s.guest)
    (hp : u.params = s.params) (hi : u.inTransaction = s.inTransaction) :
    s.StoredAndPatched (u.patch k) m n v k ∧ s.OutsideKept (u.patch k) := by
  have he : t.eaSeg m = s.eaSeg m ∧ t.eaOff m = s.eaOff m := by simp [eaSeg, eaOff, ht]
  refine ⟨storedAndPatched m v k hn ?_ hg, by simp [hg], by simp [hp], by simp [hi]⟩
  rw [hu]
  simp only [store, he.1, he.2]
  exact writeLE_mem_congr hm ..

/-- Any 64 bits become a binary32 NaN. -/
theorem isNaN_toNaN32 (v : BitVec 64) :
    (toNaN32 v).extractLsb' 23 8 = 255 ∧ (toNaN32 v).extractLsb' 0 23 ≠ 0 := by
  unfold toNaN32
  split
  · rename_i h
    constructor
    · rw [← h.1]
      apply BitVec.eq_of_getLsbD_eq
      intro k hk
      simp [hk]
    · intro h'
      apply h.2
      rw [← h']
      apply BitVec.eq_of_getLsbD_eq
      intro k hk
      simp [hk]
  · constructor
    · apply BitVec.eq_of_getLsbD_eq
      intro k hk
      simp [BitVec.getLsbD_extractLsb', hk, BitVec.getLsbD_or,
        (by decide : ∀ k : Fin 8, (0x7FC00000#32).getLsbD (23 + k.val) = true) ⟨k, hk⟩,
        (by decide : ∀ k : Fin 8, (255#8).getLsbD (k.val) = true) ⟨k, hk⟩]
    · intro h
      have := congrArg (fun x => BitVec.getLsbD x 22) h
      simp at this

/-- A 32-bit floating write stores the rounded value, or some NaN for a NaN (spec R142). -/
theorem State.writeFloat32_spec (s : State) (m : MemOperand) (x : Double) :
    ∃ (b : Single) (d : Nat), s.writeFloat32 m x = (s.store m 4 b.toNat).drawn d ∧
      (if F64.isNaN x then b.extractLsb' 23 8 = 255 ∧ b.extractLsb' 0 23 ≠ 0 else b = doubleToSingle x) := by
  by_cases h : F64.isNaN x = true
  · exact ⟨toNaN32 s.freeValue, 1, by simp only [writeFloat32, h, if_true], by rw [if_pos h]; exact isNaN_toNaN32 _⟩
  · exact ⟨doubleToSingle x, 0, by simp only [writeFloat32, h]; rfl, by rw [if_neg h]⟩

/-- A 64-bit floating write stores the pattern, or some NaN for a NaN (spec R144). -/
theorem State.writeFloat64_spec (s : State) (m : MemOperand) (x : Double) :
    ∃ (b : Double) (d : Nat), s.writeFloat64 m x = (s.store m 8 b.toNat).drawn d ∧
      (if F64.isNaN x then F64.isNaN b = true else b = x) := by
  by_cases h : F64.isNaN x = true
  · exact ⟨toNaN64 s.freeValue, 1, by simp only [writeFloat64, h, if_true], by rw [if_pos h]; exact isNaN_toNaN64 _⟩
  · exact ⟨x, 0, by simp only [writeFloat64, h]; rfl, by rw [if_neg h]⟩

/-- Consecutive words as one little-endian value. -/
def wordsValue : List Word → Nat
  | [] => 0
  | w :: rest => w.toNat + 65536 * wordsValue rest

/-- Consecutive words are one multi-byte write (spec R320). -/
theorem State.storeWords_eq (s : State) (seg off : Word) (ws : List Word) :
    s.storeWords seg off ws = s.writeLE seg off (2 * ws.length) (wordsValue ws) := by
  induction ws generalizing s off with
  | nil => rfl
  | cons w rest ih =>
    have hw := w.isLt
    rw [storeWords, ih, List.length_cons, show 2 * (rest.length + 1) = 2 * rest.length + 1 + 1 by omega, wordsValue]
    simp only [write16, writeLE]
    rw [show BitVec.ofNat 8 (w.toNat + 65536 * wordsValue rest) = BitVec.ofNat 8 w.toNat from
        BitVec.eq_of_toNat_eq (by simp only [BitVec.toNat_ofNat]; omega),
      show BitVec.ofNat 8 ((w.toNat + 65536 * wordsValue rest) / 256) = BitVec.ofNat 8 (w.toNat / 256) from
        BitVec.eq_of_toNat_eq (by simp only [BitVec.toNat_ofNat]; omega),
      show (w.toNat + 65536 * wordsValue rest) / 256 / 256 = wordsValue rest by omega,
      show off + 2 = off + 1 + 1 by rw [add_assoc]; rfl]

@[simp] theorem State.storeWords_kept (s : State) (seg off : Word) (ws : List Word) :
    (s.storeWords seg off ws).block = s.block ∧ (s.storeWords seg off ws).guest = s.guest ∧
      (s.storeWords seg off ws).params = s.params ∧ (s.storeWords seg off ws).inTransaction = s.inTransaction := by
  simp [storeWords_eq]

end Sys2Proof.Machine
end

