-- ==== Sys2Proof/Laws/Exec.lean ====
section
/-! SUPPORT. What `exec` answers for each constructor: the rule, in terms of the shared operations, and the patch. -/

namespace Sys2Proof.Machine

theorem exec_faddM32real (m : MemOperand) (s : State) :
    exec (.faddM32real m) s = .next ((s.arithMem (s.readFloat32 m) F64.add).patch m.skip) := rfl
theorem exec_fmulM32real (m : MemOperand) (s : State) :
    exec (.fmulM32real m) s = .next ((s.arithMem (s.readFloat32 m) F64.mul).patch m.skip) := rfl
theorem exec_fcomM32real (m : MemOperand) (s : State) :
    exec (.fcomM32real m) s = .next ((s.compareMem (s.readFloat32 m)).patch m.skip) := rfl
theorem exec_fcompM32real (m : MemOperand) (s : State) :
    exec (.fcompM32real m) s = .next ((s.compareMemPop (s.readFloat32 m)).patch m.skip) := rfl
theorem exec_fsubM32real (m : MemOperand) (s : State) :
    exec (.fsubM32real m) s = .next ((s.arithMem (s.readFloat32 m) F64.sub).patch m.skip) := rfl
theorem exec_fsubrM32real (m : MemOperand) (s : State) :
    exec (.fsubrM32real m) s = .next ((s.arithMem (s.readFloat32 m) fun st v => F64.sub v st).patch m.skip) := rfl
theorem exec_fdivM32real (m : MemOperand) (s : State) :
    exec (.fdivM32real m) s = .next ((s.arithMem (s.readFloat32 m) F64.div).patch m.skip) := rfl
theorem exec_fdivrM32real (m : MemOperand) (s : State) :
    exec (.fdivrM32real m) s = .next ((s.arithMem (s.readFloat32 m) fun st v => F64.div v st).patch m.skip) := rfl
theorem exec_fiaddM32int (m : MemOperand) (s : State) :
    exec (.fiaddM32int m) s = .next ((s.arithMem (s.readInt32 m) F64.add).patch m.skip) := rfl
theorem exec_fimulM32int (m : MemOperand) (s : State) :
    exec (.fimulM32int m) s = .next ((s.arithMem (s.readInt32 m) F64.mul).patch m.skip) := rfl
theorem exec_ficomM32int (m : MemOperand) (s : State) :
    exec (.ficomM32int m) s = .next ((s.compareMem (s.readInt32 m)).patch m.skip) := rfl
theorem exec_ficompM32int (m : MemOperand) (s : State) :
    exec (.ficompM32int m) s = .next ((s.compareMemPop (s.readInt32 m)).patch m.skip) := rfl
theorem exec_fisubM32int (m : MemOperand) (s : State) :
    exec (.fisubM32int m) s = .next ((s.arithMem (s.readInt32 m) F64.sub).patch m.skip) := rfl
theorem exec_fisubrM32int (m : MemOperand) (s : State) :
    exec (.fisubrM32int m) s = .next ((s.arithMem (s.readInt32 m) fun st v => F64.sub v st).patch m.skip) := rfl
theorem exec_fidivM32int (m : MemOperand) (s : State) :
    exec (.fidivM32int m) s = .next ((s.arithMem (s.readInt32 m) F64.div).patch m.skip) := rfl
theorem exec_fidivrM32int (m : MemOperand) (s : State) :
    exec (.fidivrM32int m) s = .next ((s.arithMem (s.readInt32 m) fun st v => F64.div v st).patch m.skip) := rfl
theorem exec_faddM64real (m : MemOperand) (s : State) :
    exec (.faddM64real m) s = .next ((s.arithMem (s.readFloat64 m) F64.add).patch m.skip) := rfl
theorem exec_fmulM64real (m : MemOperand) (s : State) :
    exec (.fmulM64real m) s = .next ((s.arithMem (s.readFloat64 m) F64.mul).patch m.skip) := rfl
theorem exec_fcomM64real (m : MemOperand) (s : State) :
    exec (.fcomM64real m) s = .next ((s.compareMem (s.readFloat64 m)).patch m.skip) := rfl
theorem exec_fcompM64real (m : MemOperand) (s : State) :
    exec (.fcompM64real m) s = .next ((s.compareMemPop (s.readFloat64 m)).patch m.skip) := rfl
theorem exec_fsubM64real (m : MemOperand) (s : State) :
    exec (.fsubM64real m) s = .next ((s.arithMem (s.readFloat64 m) F64.sub).patch m.skip) := rfl
theorem exec_fsubrM64real (m : MemOperand) (s : State) :
    exec (.fsubrM64real m) s = .next ((s.arithMem (s.readFloat64 m) fun st v => F64.sub v st).patch m.skip) := rfl
theorem exec_fdivM64real (m : MemOperand) (s : State) :
    exec (.fdivM64real m) s = .next ((s.arithMem (s.readFloat64 m) F64.div).patch m.skip) := rfl
theorem exec_fdivrM64real (m : MemOperand) (s : State) :
    exec (.fdivrM64real m) s = .next ((s.arithMem (s.readFloat64 m) fun st v => F64.div v st).patch m.skip) := rfl
theorem exec_fiaddM16int (m : MemOperand) (s : State) :
    exec (.fiaddM16int m) s = .next ((s.arithMem (s.readInt16 m) F64.add).patch m.skip) := rfl
theorem exec_fimulM16int (m : MemOperand) (s : State) :
    exec (.fimulM16int m) s = .next ((s.arithMem (s.readInt16 m) F64.mul).patch m.skip) := rfl
theorem exec_ficomM16int (m : MemOperand) (s : State) :
    exec (.ficomM16int m) s = .next ((s.compareMem (s.readInt16 m)).patch m.skip) := rfl
theorem exec_ficompM16int (m : MemOperand) (s : State) :
    exec (.ficompM16int m) s = .next ((s.compareMemPop (s.readInt16 m)).patch m.skip) := rfl
theorem exec_fisubM16int (m : MemOperand) (s : State) :
    exec (.fisubM16int m) s = .next ((s.arithMem (s.readInt16 m) F64.sub).patch m.skip) := rfl
theorem exec_fisubrM16int (m : MemOperand) (s : State) :
    exec (.fisubrM16int m) s = .next ((s.arithMem (s.readInt16 m) fun st v => F64.sub v st).patch m.skip) := rfl
theorem exec_fidivM16int (m : MemOperand) (s : State) :
    exec (.fidivM16int m) s = .next ((s.arithMem (s.readInt16 m) F64.div).patch m.skip) := rfl
theorem exec_fidivrM16int (m : MemOperand) (s : State) :
    exec (.fidivrM16int m) s = .next ((s.arithMem (s.readInt16 m) fun st v => F64.div v st).patch m.skip) := rfl
theorem exec_faddStiSt (i : BitVec 3) (s : State) :
    exec (.faddStiSt i) s = .next ((s.arithReg i F64.add).patch 1) := rfl
theorem exec_fmulStiSt (i : BitVec 3) (s : State) :
    exec (.fmulStiSt i) s = .next ((s.arithReg i F64.mul).patch 1) := rfl
theorem exec_fsubrStiSt (i : BitVec 3) (s : State) :
    exec (.fsubrStiSt i) s = .next ((s.arithReg i fun a b => F64.sub b a).patch 1) := rfl
theorem exec_fsubStiSt (i : BitVec 3) (s : State) :
    exec (.fsubStiSt i) s = .next ((s.arithReg i F64.sub).patch 1) := rfl
theorem exec_fdivrStiSt (i : BitVec 3) (s : State) :
    exec (.fdivrStiSt i) s = .next ((s.arithReg i fun a b => F64.div b a).patch 1) := rfl
theorem exec_fdivStiSt (i : BitVec 3) (s : State) :
    exec (.fdivStiSt i) s = .next ((s.arithReg i F64.div).patch 1) := rfl
theorem exec_faddpStiSt (i : BitVec 3) (s : State) :
    exec (.faddpStiSt i) s = .next ((s.arithRegPop i F64.add).patch 1) := rfl
theorem exec_fmulpStiSt (i : BitVec 3) (s : State) :
    exec (.fmulpStiSt i) s = .next ((s.arithRegPop i F64.mul).patch 1) := rfl
theorem exec_fsubrpStiSt (i : BitVec 3) (s : State) :
    exec (.fsubrpStiSt i) s = .next ((s.arithRegPop i fun a b => F64.sub b a).patch 1) := rfl
theorem exec_fsubpStiSt (i : BitVec 3) (s : State) :
    exec (.fsubpStiSt i) s = .next ((s.arithRegPop i F64.sub).patch 1) := rfl
theorem exec_fdivrpStiSt (i : BitVec 3) (s : State) :
    exec (.fdivrpStiSt i) s = .next ((s.arithRegPop i fun a b => F64.div b a).patch 1) := rfl
theorem exec_fdivpStiSt (i : BitVec 3) (s : State) :
    exec (.fdivpStiSt i) s = .next ((s.arithRegPop i F64.div).patch 1) := rfl
theorem exec_fcompp (i : BitVec 3) (s : State) :
    exec (.fcompp i) s = .next ((s.onBlock fun b => (b.compare (b.getST 0) (b.getST 1)).pop.pop).patch 1) := rfl
theorem exec_fldM32real (m : MemOperand) (s : State) :
    exec (.fldM32real m) s = .next ((s.loadPush (s.readFloat32 m)).patch m.skip) := rfl
theorem exec_fstM32real (m : MemOperand) (s : State) :
    exec (.fstM32real m) s = .next ((s.writeFloat32 m s.st0).patch m.skip) := rfl
theorem exec_fstpM32real (m : MemOperand) (s : State) :
    exec (.fstpM32real m) s = .next ((s.popped.writeFloat32 m s.st0).patch m.skip) := rfl
theorem exec_fildM32int (m : MemOperand) (s : State) :
    exec (.fildM32int m) s = .next ((s.loadPush (s.readInt32 m)).patch m.skip) := rfl
theorem exec_fistM32int (m : MemOperand) (s : State) :
    exec (.fistM32int m) s = .next ((s.writeInt32 m s.st0).patch m.skip) := rfl
theorem exec_fistpM32int (m : MemOperand) (s : State) :
    exec (.fistpM32int m) s = .next ((s.popped.writeInt32 m s.st0).patch m.skip) := rfl
theorem exec_fldM80real (m : MemOperand) (s : State) :
    exec (.fldM80real m) s = .next ((s.loadPush (s.readFloat80 m)).patch m.skip) := rfl
theorem exec_fstpM80real (m : MemOperand) (s : State) :
    exec (.fstpM80real m) s = .next ((s.popped.writeFloat80 m s.st0).patch m.skip) := rfl
theorem exec_fldM64real (m : MemOperand) (s : State) :
    exec (.fldM64real m) s = .next ((s.loadPush (s.readFloat64 m)).patch m.skip) := rfl
theorem exec_fstM64real (m : MemOperand) (s : State) :
    exec (.fstM64real m) s = .next ((s.writeFloat64 m s.st0).patch m.skip) := rfl
theorem exec_fstpM64real (m : MemOperand) (s : State) :
    exec (.fstpM64real m) s = .next ((s.popped.writeFloat64 m s.st0).patch m.skip) := rfl
theorem exec_fildM16int (m : MemOperand) (s : State) :
    exec (.fildM16int m) s = .next ((s.loadPush (s.readInt16 m)).patch m.skip) := rfl
theorem exec_fistM16int (m : MemOperand) (s : State) :
    exec (.fistM16int m) s = .next ((s.writeInt16 m s.st0).patch m.skip) := rfl
theorem exec_fistpM16int (m : MemOperand) (s : State) :
    exec (.fistpM16int m) s = .next ((s.popped.writeInt16 m s.st0).patch m.skip) := rfl
theorem exec_fildM64int (m : MemOperand) (s : State) :
    exec (.fildM64int m) s = .next ((s.loadPush (s.readInt64 m)).patch m.skip) := rfl
theorem exec_fistpM64int (m : MemOperand) (s : State) :
    exec (.fistpM64int m) s = .next ((s.popped.writeInt64 m s.st0).patch m.skip) := rfl
theorem exec_fldSti (i : BitVec 3) (s : State) :
    exec (.fldSti i) s = .next ((s.onBlock fun b => b.push (b.getST i)).patch 1) := rfl
theorem exec_fxchSti (i : BitVec 3) (s : State) :
    exec (.fxchSti i) s = .next ((s.onBlock fun b => (b.setST 0 (b.getST i)).setST i (b.getST 0)).patch 1) := rfl
theorem exec_fstSti (i : BitVec 3) (s : State) :
    exec (.fstSti i) s =
      .next ((if s.params.ddRegForms = .standard then s.onBlock fun b => b.setST i (b.getST 0) else s).patch 1) := rfl
theorem exec_fstpSti (i : BitVec 3) (s : State) :
    exec (.fstpSti i) s =
      .next ((if s.params.ddRegForms = .standard then s.onBlock fun b => (b.setST i (b.getST 0)).pop else s).patch 1) := rfl
theorem exec_fld1 (s : State) :
    exec .fld1 s = .next ((s.onBlock fun b => b.push F64.oneDouble).patch 1) := rfl
theorem exec_fldl2t (s : State) :
    exec .fldl2t s = .next ((s.onBlock fun b => b.push s.params.log2_10).patch 1) := rfl
theorem exec_fldl2e (s : State) :
    exec .fldl2e s = .next ((s.onBlock fun b => b.push s.params.log2_e).patch 1) := rfl
theorem exec_fldpi (s : State) :
    exec .fldpi s = .next ((s.onBlock fun b => b.push s.params.pi).patch 1) := rfl
theorem exec_fldlg2 (s : State) :
    exec .fldlg2 s = .next ((s.onBlock fun b => b.push s.params.log10_2).patch 1) := rfl
theorem exec_fldln2 (s : State) :
    exec .fldln2 s = .next ((s.onBlock fun b => b.push s.params.ln_2).patch 1) := rfl
theorem exec_fldz (s : State) :
    exec .fldz s = .next ((s.onBlock fun b => b.push (F64.zero false)).patch 1) := rfl
theorem exec_fchs (s : State) :
    exec .fchs s = .next ((s.onBlock fun b => b.setST 0 (F64.neg (b.getST 0))).patch 1) := rfl
theorem exec_fabs (s : State) :
    exec .fabs s = .next ((s.onBlock fun b => b.setST 0 (F64.abs (b.getST 0))).patch 1) := rfl
theorem exec_ftst (s : State) :
    exec .ftst s = .next ((s.onBlock fun b => b.compare (b.getST 0) (F64.zero false)).patch 1) := rfl
theorem exec_fxam (s : State) :
    exec .fxam s = .next (State.patch (
      s.onBlock fun b =>
        { b with sw := swFxam b.sw s.params.fxamSubnormal (b.tag (b.phys 0)) (b.getST 0) }) 1) := rfl
theorem exec_f2xm1 (s : State) :
    exec .f2xm1 s = .next ((s.setResult 0 (Tr.exp2m1 s.params.tr (s.block.getST 0))).patch 1) := rfl
theorem exec_fyl2x (s : State) :
    exec .fyl2x s = .next ((s.popTimesLog (Tr.log2 s.params.tr (s.block.getST 0))).patch 1) := rfl
theorem exec_fptan (s : State) :
    exec .fptan s =
      .next (((s.setResult 0 (Tr.tan s.params.tr (s.block.getST 0))).onBlock fun b => b.push F64.oneDouble).patch 1) := rfl
theorem exec_fpatan (s : State) :
    exec .fpatan s = .next (State.patch (
      let t := s.onBlock Block.pop
      t.setResult 0 (Tr.atan2 s.params.tr (t.block.getST 0) (s.block.getST 0))) 1) := rfl
theorem exec_fxtract (s : State) :
    exec .fxtract s = .next (State.patch (
      let v := s.block.getST 0
      if F64.isNaN v || F64.isInf v then
        (s.drawn 2).onBlock fun b => (b.setST 0 s.freeValue).push (s.drawn 1).freeValue
      else if F64.isZero v then s.onBlock fun b => (b.setST 0 (F64.inf true)).push (F64.zero false)
      else s.onBlock fun b => (b.setST 0 (F64.logb v)).push (F64.signif v)) 1) := rfl
theorem exec_fdecstp (s : State) :
    exec .fdecstp s = .next ((s.onBlock Block.decSTP).patch 1) := rfl
theorem exec_fincstp (s : State) :
    exec .fincstp s = .next ((s.onBlock Block.incSTP).patch 1) := rfl
theorem exec_fprem (s : State) :
    exec .fprem s = .next (State.patch (
      (s.setResult 0 (F64.rem (s.block.getST 0) (s.block.getST 1))).onBlock fun b =>
        { b with sw := swSetC2 b.sw false }) 1) := rfl
theorem exec_fyl2xp1 (s : State) :
    exec .fyl2xp1 s = .next ((s.popTimesLog (Tr.log2p1 s.params.tr (s.block.getST 0))).patch 1) := rfl
theorem exec_fsqrt (s : State) :
    exec .fsqrt s = .next ((s.setResult 0 (F64.sqrt (s.block.getST 0))).patch 1) := rfl
theorem exec_frndint (s : State) :
    exec .frndint s = .next ((s.setResult 0 (F64.rint (s.block.getST 0))).patch 1) := rfl
theorem exec_fscale (s : State) :
    exec .fscale s =
      .next ((s.setResult 0 (F64.scale s.params.scaleFn (s.block.getST 0) (s.block.getST 1))).patch 1) := rfl
theorem exec_fnop (s : State) :
    exec .fnop s = .next (s.patch 1) := rfl
theorem exec_fldenvM14 (m : MemOperand) (s : State) :
    exec (.fldenvM14 m) s = .next (State.patch (
      s.onBlock fun b => b.withEnvironment (s.read16 (s.eaSeg m) (s.eaOff m))
        (s.read16 (s.eaSeg m) (s.eaOff m + 2)) (s.read16 (s.eaSeg m) (s.eaOff m + 4))) m.skip) := rfl
theorem exec_fldcwM16 (m : MemOperand) (s : State) :
    exec (.fldcwM16 m) s =
      .next ((s.onBlock fun b => { b with cw := s.read16 (s.eaSeg m) (s.eaOff m) }).patch m.skip) := rfl
theorem exec_fstenvM14 (m : MemOperand) (s : State) :
    exec (.fstenvM14 m) s = .next ((s.storeWords (s.eaSeg m) (s.eaOff m) s.block.environment).patch m.skip) := rfl
theorem exec_fstcwM16 (m : MemOperand) (s : State) :
    exec (.fstcwM16 m) s = .next ((s.write16 (s.eaSeg m) (s.eaOff m) s.block.cw).patch m.skip) := rfl
theorem exec_fstswM16 (m : MemOperand) (s : State) :
    exec (.fstswM16 m) s = .next ((s.write16 (s.eaSeg m) (s.eaOff m) s.block.sw).patch m.skip) := rfl
theorem exec_ffreeSti (i : BitVec 3) (s : State) :
    exec (.ffreeSti i) s =
      .next ((if s.params.ddRegForms = .standard then s.onBlock fun b => b.free i else s).patch 1) := rfl
theorem exec_finit (s : State) :
    exec .finit s = .next (State.patch (
      (s.drawn 8).onBlock fun _ =>
        { Block.reset with regs := Vector.ofFn fun p => Config.freeValue (s.draws + p.val) }) 1) := rfl
theorem exec_fclex (s : State) :
    exec .fclex s = .next ((s.onBlock Block.clearExceptions).patch 1) := rfl
theorem exec_fstswAx (s : State) :
    exec .fstswAx s = .next (({ s with guest := { s.guest with ax := s.block.sw } }).patch 1) := rfl
theorem exec_ignoredD8Reg (op rm : BitVec 3) (s : State) :
    exec (.ignoredD8Reg op rm) s = .next (s.patch 1) := rfl
theorem exec_ignoredDaReg (op rm : BitVec 3) (s : State) :
    exec (.ignoredDaReg op rm) s = .next (s.patch 1) := rfl
theorem exec_ignoredD9Mem1 (m : MemOperand) (s : State) :
    exec (.ignoredD9Mem1 m) s = .next (s.patch m.skip) := rfl
theorem exec_ignoredD9D1 (s : State) :
    exec .ignoredD9D1 s = .next (s.patch 1) := rfl
theorem exec_ignoredD9D2 (s : State) :
    exec .ignoredD9D2 s = .next (s.patch 1) := rfl
theorem exec_ignoredD9D3 (s : State) :
    exec .ignoredD9D3 s = .next (s.patch 1) := rfl
theorem exec_ignoredD9D4 (s : State) :
    exec .ignoredD9D4 s = .next (s.patch 1) := rfl
theorem exec_ignoredD9D5 (s : State) :
    exec .ignoredD9D5 s = .next (s.patch 1) := rfl
theorem exec_ignoredD9D6 (s : State) :
    exec .ignoredD9D6 s = .next (s.patch 1) := rfl
theorem exec_ignoredD9D7 (s : State) :
    exec .ignoredD9D7 s = .next (s.patch 1) := rfl
theorem exec_ignoredD9Reg3 (i : BitVec 3) (s : State) :
    exec (.ignoredD9Reg3 i) s = .next (s.patch 1) := rfl
theorem exec_ignoredD9E2 (s : State) :
    exec .ignoredD9E2 s = .next (s.patch 1) := rfl
theorem exec_ignoredD9E3 (s : State) :
    exec .ignoredD9E3 s = .next (s.patch 1) := rfl
theorem exec_ignoredD9E6 (s : State) :
    exec .ignoredD9E6 s = .next (s.patch 1) := rfl
theorem exec_ignoredD9E7 (s : State) :
    exec .ignoredD9E7 s = .next (s.patch 1) := rfl
theorem exec_ignoredD9Ef (s : State) :
    exec .ignoredD9Ef s = .next (s.patch 1) := rfl
theorem exec_ignoredD9F5 (s : State) :
    exec .ignoredD9F5 s = .next (s.patch 1) := rfl
theorem exec_ignoredD9Fb (s : State) :
    exec .ignoredD9Fb s = .next (s.patch 1) := rfl
theorem exec_ignoredD9Fe (s : State) :
    exec .ignoredD9Fe s = .next (s.patch 1) := rfl
theorem exec_ignoredD9Ff (s : State) :
    exec .ignoredD9Ff s = .next (s.patch 1) := rfl
theorem exec_ignoredDbMem1 (m : MemOperand) (s : State) :
    exec (.ignoredDbMem1 m) s = .next (s.patch m.skip) := rfl
theorem exec_ignoredDbMem4 (m : MemOperand) (s : State) :
    exec (.ignoredDbMem4 m) s = .next (s.patch m.skip) := rfl
theorem exec_ignoredDbMem6 (m : MemOperand) (s : State) :
    exec (.ignoredDbMem6 m) s = .next (s.patch m.skip) := rfl
theorem exec_ignoredDbReg (op rm : BitVec 3) (s : State) :
    exec (.ignoredDbReg op rm) s = .next (s.patch 1) := rfl
theorem exec_ignoredDcReg2 (i : BitVec 3) (s : State) :
    exec (.ignoredDcReg2 i) s = .next (s.patch 1) := rfl
theorem exec_ignoredDcReg3 (i : BitVec 3) (s : State) :
    exec (.ignoredDcReg3 i) s = .next (s.patch 1) := rfl
theorem exec_ignoredDeReg2 (i : BitVec 3) (s : State) :
    exec (.ignoredDeReg2 i) s = .next (s.patch 1) := rfl
theorem exec_ignoredDdMem1 (m : MemOperand) (s : State) :
    exec (.ignoredDdMem1 m) s = .next (s.patch m.skip) := rfl
theorem exec_ignoredDdMem4 (m : MemOperand) (s : State) :
    exec (.ignoredDdMem4 m) s = .next (s.patch m.skip) := rfl
theorem exec_ignoredDdMem5 (m : MemOperand) (s : State) :
    exec (.ignoredDdMem5 m) s = .next (s.patch m.skip) := rfl
theorem exec_ignoredDdMem6 (m : MemOperand) (s : State) :
    exec (.ignoredDdMem6 m) s = .next (s.patch m.skip) := rfl
theorem exec_ignoredDdReg (op rm : BitVec 3) (s : State) :
    exec (.ignoredDdReg op rm) s = .next (s.patch 1) := rfl
theorem exec_ignoredDfMem1 (m : MemOperand) (s : State) :
    exec (.ignoredDfMem1 m) s = .next (s.patch m.skip) := rfl
theorem exec_ignoredDfMem4 (m : MemOperand) (s : State) :
    exec (.ignoredDfMem4 m) s = .next (s.patch m.skip) := rfl
theorem exec_ignoredDfMem6 (m : MemOperand) (s : State) :
    exec (.ignoredDfMem6 m) s = .next (s.patch m.skip) := rfl
theorem exec_ignoredDfReg (op rm : BitVec 3) (s : State) :
    exec (.ignoredDfReg op rm) s = .next (s.patch 1) := rfl

/-- Every rule in terms of the shared operations. -/
theorem ruleOf_eq (i : Instr) (s : State) : ruleOf i s =
    match i with
    | .faddM32real m => s.arithMem (s.readFloat32 m) F64.add
    | .fmulM32real m => s.arithMem (s.readFloat32 m) F64.mul
    | .fcomM32real m => s.compareMem (s.readFloat32 m)
    | .fcompM32real m => s.compareMemPop (s.readFloat32 m)
    | .fsubM32real m => s.arithMem (s.readFloat32 m) F64.sub
    | .fsubrM32real m => s.arithMem (s.readFloat32 m) fun st v => F64.sub v st
    | .fdivM32real m => s.arithMem (s.readFloat32 m) F64.div
    | .fdivrM32real m => s.arithMem (s.readFloat32 m) fun st v => F64.div v st
    | .fiaddM32int m => s.arithMem (s.readInt32 m) F64.add
    | .fimulM32int m => s.arithMem (s.readInt32 m) F64.mul
    | .ficomM32int m => s.compareMem (s.readInt32 m)
    | .ficompM32int m => s.compareMemPop (s.readInt32 m)
    | .fisubM32int m => s.arithMem (s.readInt32 m) F64.sub
    | .fisubrM32int m => s.arithMem (s.readInt32 m) fun st v => F64.sub v st
    | .fidivM32int m => s.arithMem (s.readInt32 m) F64.div
    | .fidivrM32int m => s.arithMem (s.readInt32 m) fun st v => F64.div v st
    | .faddM64real m => s.arithMem (s.readFloat64 m) F64.add
    | .fmulM64real m => s.arithMem (s.readFloat64 m) F64.mul
    | .fcomM64real m => s.compareMem (s.readFloat64 m)
    | .fcompM64real m => s.compareMemPop (s.readFloat64 m)
    | .fsubM64real m => s.arithMem (s.readFloat64 m) F64.sub
    | .fsubrM64real m => s.arithMem (s.readFloat64 m) fun st v => F64.sub v st
    | .fdivM64real m => s.arithMem (s.readFloat64 m) F64.div
    | .fdivrM64real m => s.arithMem (s.readFloat64 m) fun st v => F64.div v st
    | .fiaddM16int m => s.arithMem (s.readInt16 m) F64.add
    | .fimulM16int m => s.arithMem (s.readInt16 m) F64.mul
    | .ficomM16int m => s.compareMem (s.readInt16 m)
    | .ficompM16int m => s.compareMemPop (s.readInt16 m)
    | .fisubM16int m => s.arithMem (s.readInt16 m) F64.sub
    | .fisubrM16int m => s.arithMem (s.readInt16 m) fun st v => F64.sub v st
    | .fidivM16int m => s.arithMem (s.readInt16 m) F64.div
    | .fidivrM16int m => s.arithMem (s.readInt16 m) fun st v => F64.div v st
    | .faddStiSt i => s.arithReg i F64.add
    | .fmulStiSt i => s.arithReg i F64.mul
    | .fsubrStiSt i => s.arithReg i fun a b => F64.sub b a
    | .fsubStiSt i => s.arithReg i F64.sub
    | .fdivrStiSt i => s.arithReg i fun a b => F64.div b a
    | .fdivStiSt i => s.arithReg i F64.div
    | .faddpStiSt i => s.arithRegPop i F64.add
    | .fmulpStiSt i => s.arithRegPop i F64.mul
    | .fsubrpStiSt i => s.arithRegPop i fun a b => F64.sub b a
    | .fsubpStiSt i => s.arithRegPop i F64.sub
    | .fdivrpStiSt i => s.arithRegPop i fun a b => F64.div b a
    | .fdivpStiSt i => s.arithRegPop i F64.div
    | .fcompp _ => s.onBlock fun b => (b.compare (b.getST 0) (b.getST 1)).pop.pop
    | .fldM32real m => s.loadPush (s.readFloat32 m)
    | .fstM32real m => s.writeFloat32 m s.st0
    | .fstpM32real m => s.popped.writeFloat32 m s.st0
    | .fildM32int m => s.loadPush (s.readInt32 m)
    | .fistM32int m => s.writeInt32 m s.st0
    | .fistpM32int m => s.popped.writeInt32 m s.st0
    | .fldM80real m => s.loadPush (s.readFloat80 m)
    | .fstpM80real m => s.popped.writeFloat80 m s.st0
    | .fldM64real m => s.loadPush (s.readFloat64 m)
    | .fstM64real m => s.writeFloat64 m s.st0
    | .fstpM64real m => s.popped.writeFloat64 m s.st0
    | .fildM16int m => s.loadPush (s.readInt16 m)
    | .fistM16int m => s.writeInt16 m s.st0
    | .fistpM16int m => s.popped.writeInt16 m s.st0
    | .fildM64int m => s.loadPush (s.readInt64 m)
    | .fistpM64int m => s.popped.writeInt64 m s.st0
    | .fldSti i => s.onBlock fun b => b.push (b.getST i)
    | .fxchSti i => s.onBlock fun b => (b.setST 0 (b.getST i)).setST i (b.getST 0)
    | .fstSti i => if s.params.ddRegForms = .standard then s.onBlock fun b => b.setST i (b.getST 0) else s
    | .fstpSti i => if s.params.ddRegForms = .standard then s.onBlock fun b => (b.setST i (b.getST 0)).pop else s
    | .fld1 => s.onBlock fun b => b.push F64.oneDouble
    | .fldl2t => s.onBlock fun b => b.push s.params.log2_10
    | .fldl2e => s.onBlock fun b => b.push s.params.log2_e
    | .fldpi => s.onBlock fun b => b.push s.params.pi
    | .fldlg2 => s.onBlock fun b => b.push s.params.log10_2
    | .fldln2 => s.onBlock fun b => b.push s.params.ln_2
    | .fldz => s.onBlock fun b => b.push (F64.zero false)
    | .fchs => s.onBlock fun b => b.setST 0 (F64.neg (b.getST 0))
    | .fabs => s.onBlock fun b => b.setST 0 (F64.abs (b.getST 0))
    | .ftst => s.onBlock fun b => b.compare (b.getST 0) (F64.zero false)
    | .fxam =>
      s.onBlock fun b =>
        { b with sw := swFxam b.sw s.params.fxamSubnormal (b.tag (b.phys 0)) (b.getST 0) }
    | .f2xm1 => s.setResult 0 (Tr.exp2m1 s.params.tr (s.block.getST 0))
    | .fyl2x => s.popTimesLog (Tr.log2 s.params.tr (s.block.getST 0))
    | .fptan => (s.setResult 0 (Tr.tan s.params.tr (s.block.getST 0))).onBlock fun b => b.push F64.oneDouble
    | .fpatan =>
      let t := s.onBlock Block.pop
      t.setResult 0 (Tr.atan2 s.params.tr (t.block.getST 0) (s.block.getST 0))
    | .fxtract =>
      let v := s.block.getST 0
      if F64.isNaN v || F64.isInf v then
        (s.drawn 2).onBlock fun b => (b.setST 0 s.freeValue).push (s.drawn 1).freeValue
      else if F64.isZero v then s.onBlock fun b => (b.setST 0 (F64.inf true)).push (F64.zero false)
      else s.onBlock fun b => (b.setST 0 (F64.logb v)).push (F64.signif v)
    | .fdecstp => s.onBlock Block.decSTP
    | .fincstp => s.onBlock Block.incSTP
    | .fprem =>
      (s.setResult 0 (F64.rem (s.block.getST 0) (s.block.getST 1))).onBlock fun b =>
        { b with sw := swSetC2 b.sw false }
    | .fyl2xp1 => s.popTimesLog (Tr.log2p1 s.params.tr (s.block.getST 0))
    | .fsqrt => s.setResult 0 (F64.sqrt (s.block.getST 0))
    | .frndint => s.setResult 0 (F64.rint (s.block.getST 0))
    | .fscale => s.setResult 0 (F64.scale s.params.scaleFn (s.block.getST 0) (s.block.getST 1))
    | .fnop => s
    | .fldenvM14 m =>
      s.onBlock fun b => b.withEnvironment (s.read16 (s.eaSeg m) (s.eaOff m))
        (s.read16 (s.eaSeg m) (s.eaOff m + 2)) (s.read16 (s.eaSeg m) (s.eaOff m + 4))
    | .fldcwM16 m => s.onBlock fun b => { b with cw := s.read16 (s.eaSeg m) (s.eaOff m) }
    | .fstenvM14 m => s.storeWords (s.eaSeg m) (s.eaOff m) s.block.environment
    | .fstcwM16 m => s.write16 (s.eaSeg m) (s.eaOff m) s.block.cw
    | .fstswM16 m => s.write16 (s.eaSeg m) (s.eaOff m) s.block.sw
    | .ffreeSti i => if s.params.ddRegForms = .standard then s.onBlock fun b => b.free i else s
    | .finit =>
      (s.drawn 8).onBlock fun _ =>
        { Block.reset with regs := Vector.ofFn fun p => Config.freeValue (s.draws + p.val) }
    | .fclex => s.onBlock Block.clearExceptions
    | .fstswAx => { s with guest := { s.guest with ax := s.block.sw } }
    | .segovr _ _ => s
    | .fwait => s
    | .ignoredD8Reg _ _ => s
    | .ignoredDaReg _ _ => s
    | .ignoredD9Mem1 _ => s
    | .ignoredD9D1 => s
    | .ignoredD9D2 => s
    | .ignoredD9D3 => s
    | .ignoredD9D4 => s
    | .ignoredD9D5 => s
    | .ignoredD9D6 => s
    | .ignoredD9D7 => s
    | .ignoredD9Reg3 _ => s
    | .ignoredD9E2 => s
    | .ignoredD9E3 => s
    | .ignoredD9E6 => s
    | .ignoredD9E7 => s
    | .ignoredD9Ef => s
    | .ignoredD9F5 => s
    | .ignoredD9Fb => s
    | .ignoredD9Fe => s
    | .ignoredD9Ff => s
    | .ignoredDbMem1 _ => s
    | .ignoredDbMem4 _ => s
    | .ignoredDbMem6 _ => s
    | .ignoredDbReg _ _ => s
    | .ignoredDcReg2 _ => s
    | .ignoredDcReg3 _ => s
    | .ignoredDeReg2 _ => s
    | .ignoredDdMem1 _ => s
    | .ignoredDdMem4 _ => s
    | .ignoredDdMem5 _ => s
    | .ignoredDdMem6 _ => s
    | .ignoredDdReg _ _ => s
    | .ignoredDfMem1 _ => s
    | .ignoredDfMem4 _ => s
    | .ignoredDfMem6 _ => s
    | .ignoredDfReg _ _ => s := by
  cases i <;> rfl

end Sys2Proof.Machine
end

