-- ==== Sys2Proof/Laws/PerInstr.lean ====
section
/-! SUPPORT. The family ReadBack, one lemma per constructor: the opcode map gives a well-formed instruction back from
the trap sequence that stands for it (spec R106, R107, R175). -/

namespace Sys2Proof.Laws.ReadBack

/-- The trap sequence of a well-formed instruction is that instruction's. -/
def Statement (i : Instr) : Prop := i.wellFormed = true → i.format.instr = i

theorem faddM32real (m : MemOperand) : Statement (.faddM32real m) := fun _ => rfl
theorem fmulM32real (m : MemOperand) : Statement (.fmulM32real m) := fun _ => rfl
theorem fcomM32real (m : MemOperand) : Statement (.fcomM32real m) := fun _ => rfl
theorem fcompM32real (m : MemOperand) : Statement (.fcompM32real m) := fun _ => rfl
theorem fsubM32real (m : MemOperand) : Statement (.fsubM32real m) := fun _ => rfl
theorem fsubrM32real (m : MemOperand) : Statement (.fsubrM32real m) := fun _ => rfl
theorem fdivM32real (m : MemOperand) : Statement (.fdivM32real m) := fun _ => rfl
theorem fdivrM32real (m : MemOperand) : Statement (.fdivrM32real m) := fun _ => rfl
theorem fiaddM32int (m : MemOperand) : Statement (.fiaddM32int m) := fun _ => rfl
theorem fimulM32int (m : MemOperand) : Statement (.fimulM32int m) := fun _ => rfl
theorem ficomM32int (m : MemOperand) : Statement (.ficomM32int m) := fun _ => rfl
theorem ficompM32int (m : MemOperand) : Statement (.ficompM32int m) := fun _ => rfl
theorem fisubM32int (m : MemOperand) : Statement (.fisubM32int m) := fun _ => rfl
theorem fisubrM32int (m : MemOperand) : Statement (.fisubrM32int m) := fun _ => rfl
theorem fidivM32int (m : MemOperand) : Statement (.fidivM32int m) := fun _ => rfl
theorem fidivrM32int (m : MemOperand) : Statement (.fidivrM32int m) := fun _ => rfl
theorem faddM64real (m : MemOperand) : Statement (.faddM64real m) := fun _ => rfl
theorem fmulM64real (m : MemOperand) : Statement (.fmulM64real m) := fun _ => rfl
theorem fcomM64real (m : MemOperand) : Statement (.fcomM64real m) := fun _ => rfl
theorem fcompM64real (m : MemOperand) : Statement (.fcompM64real m) := fun _ => rfl
theorem fsubM64real (m : MemOperand) : Statement (.fsubM64real m) := fun _ => rfl
theorem fsubrM64real (m : MemOperand) : Statement (.fsubrM64real m) := fun _ => rfl
theorem fdivM64real (m : MemOperand) : Statement (.fdivM64real m) := fun _ => rfl
theorem fdivrM64real (m : MemOperand) : Statement (.fdivrM64real m) := fun _ => rfl
theorem fiaddM16int (m : MemOperand) : Statement (.fiaddM16int m) := fun _ => rfl
theorem fimulM16int (m : MemOperand) : Statement (.fimulM16int m) := fun _ => rfl
theorem ficomM16int (m : MemOperand) : Statement (.ficomM16int m) := fun _ => rfl
theorem ficompM16int (m : MemOperand) : Statement (.ficompM16int m) := fun _ => rfl
theorem fisubM16int (m : MemOperand) : Statement (.fisubM16int m) := fun _ => rfl
theorem fisubrM16int (m : MemOperand) : Statement (.fisubrM16int m) := fun _ => rfl
theorem fidivM16int (m : MemOperand) : Statement (.fidivM16int m) := fun _ => rfl
theorem fidivrM16int (m : MemOperand) : Statement (.fidivrM16int m) := fun _ => rfl
theorem faddStiSt (i : BitVec 3) : Statement (.faddStiSt i) := fun _ => rfl
theorem fmulStiSt (i : BitVec 3) : Statement (.fmulStiSt i) := fun _ => rfl
theorem fsubrStiSt (i : BitVec 3) : Statement (.fsubrStiSt i) := fun _ => rfl
theorem fsubStiSt (i : BitVec 3) : Statement (.fsubStiSt i) := fun _ => rfl
theorem fdivrStiSt (i : BitVec 3) : Statement (.fdivrStiSt i) := fun _ => rfl
theorem fdivStiSt (i : BitVec 3) : Statement (.fdivStiSt i) := fun _ => rfl
theorem faddpStiSt (i : BitVec 3) : Statement (.faddpStiSt i) := fun _ => rfl
theorem fmulpStiSt (i : BitVec 3) : Statement (.fmulpStiSt i) := fun _ => rfl
theorem fsubrpStiSt (i : BitVec 3) : Statement (.fsubrpStiSt i) := fun _ => rfl
theorem fsubpStiSt (i : BitVec 3) : Statement (.fsubpStiSt i) := fun _ => rfl
theorem fdivrpStiSt (i : BitVec 3) : Statement (.fdivrpStiSt i) := fun _ => rfl
theorem fdivpStiSt (i : BitVec 3) : Statement (.fdivpStiSt i) := fun _ => rfl
theorem fcompp (i : BitVec 3) : Statement (.fcompp i) := fun _ => rfl
theorem fldM32real (m : MemOperand) : Statement (.fldM32real m) := fun _ => rfl
theorem fstM32real (m : MemOperand) : Statement (.fstM32real m) := fun _ => rfl
theorem fstpM32real (m : MemOperand) : Statement (.fstpM32real m) := fun _ => rfl
theorem fildM32int (m : MemOperand) : Statement (.fildM32int m) := fun _ => rfl
theorem fistM32int (m : MemOperand) : Statement (.fistM32int m) := fun _ => rfl
theorem fistpM32int (m : MemOperand) : Statement (.fistpM32int m) := fun _ => rfl
theorem fldM80real (m : MemOperand) : Statement (.fldM80real m) := fun _ => rfl
theorem fstpM80real (m : MemOperand) : Statement (.fstpM80real m) := fun _ => rfl
theorem fldM64real (m : MemOperand) : Statement (.fldM64real m) := fun _ => rfl
theorem fstM64real (m : MemOperand) : Statement (.fstM64real m) := fun _ => rfl
theorem fstpM64real (m : MemOperand) : Statement (.fstpM64real m) := fun _ => rfl
theorem fildM16int (m : MemOperand) : Statement (.fildM16int m) := fun _ => rfl
theorem fistM16int (m : MemOperand) : Statement (.fistM16int m) := fun _ => rfl
theorem fistpM16int (m : MemOperand) : Statement (.fistpM16int m) := fun _ => rfl
theorem fildM64int (m : MemOperand) : Statement (.fildM64int m) := fun _ => rfl
theorem fistpM64int (m : MemOperand) : Statement (.fistpM64int m) := fun _ => rfl
theorem fldSti (i : BitVec 3) : Statement (.fldSti i) := fun _ => rfl
theorem fxchSti (i : BitVec 3) : Statement (.fxchSti i) := fun _ => rfl
theorem fstSti (i : BitVec 3) : Statement (.fstSti i) := fun _ => rfl
theorem fstpSti (i : BitVec 3) : Statement (.fstpSti i) := fun _ => rfl
theorem fld1 : Statement .fld1 := fun _ => rfl
theorem fldl2t : Statement .fldl2t := fun _ => rfl
theorem fldl2e : Statement .fldl2e := fun _ => rfl
theorem fldpi : Statement .fldpi := fun _ => rfl
theorem fldlg2 : Statement .fldlg2 := fun _ => rfl
theorem fldln2 : Statement .fldln2 := fun _ => rfl
theorem fldz : Statement .fldz := fun _ => rfl
theorem fchs : Statement .fchs := fun _ => rfl
theorem fabs : Statement .fabs := fun _ => rfl
theorem ftst : Statement .ftst := fun _ => rfl
theorem fxam : Statement .fxam := fun _ => rfl
theorem f2xm1 : Statement .f2xm1 := fun _ => rfl
theorem fyl2x : Statement .fyl2x := fun _ => rfl
theorem fptan : Statement .fptan := fun _ => rfl
theorem fpatan : Statement .fpatan := fun _ => rfl
theorem fxtract : Statement .fxtract := fun _ => rfl
theorem fdecstp : Statement .fdecstp := fun _ => rfl
theorem fincstp : Statement .fincstp := fun _ => rfl
theorem fprem : Statement .fprem := fun _ => rfl
theorem fyl2xp1 : Statement .fyl2xp1 := fun _ => rfl
theorem fsqrt : Statement .fsqrt := fun _ => rfl
theorem frndint : Statement .frndint := fun _ => rfl
theorem fscale : Statement .fscale := fun _ => rfl
theorem fnop : Statement .fnop := fun _ => rfl
theorem fldenvM14 (m : MemOperand) : Statement (.fldenvM14 m) := fun _ => rfl
theorem fldcwM16 (m : MemOperand) : Statement (.fldcwM16 m) := fun _ => rfl
theorem fstenvM14 (m : MemOperand) : Statement (.fstenvM14 m) := fun _ => rfl
theorem fstcwM16 (m : MemOperand) : Statement (.fstcwM16 m) := fun _ => rfl
theorem fstswM16 (m : MemOperand) : Statement (.fstswM16 m) := fun _ => rfl
theorem ffreeSti (i : BitVec 3) : Statement (.ffreeSti i) := fun _ => rfl
theorem finit : Statement .finit := fun _ => rfl
theorem fclex : Statement .fclex := fun _ => rfl
theorem fstswAx : Statement .fstswAx := fun _ => rfl
theorem segovr (se : Byte) (d : Descriptor) : Statement (.segovr se d) := fun _ => rfl
theorem fwait : Statement .fwait := fun _ => rfl
theorem ignoredD8Reg (op rm : BitVec 3) : Statement (.ignoredD8Reg op rm) := fun _ => rfl
theorem ignoredDaReg (op rm : BitVec 3) : Statement (.ignoredDaReg op rm) := fun _ => rfl
theorem ignoredD9Mem1 (m : MemOperand) : Statement (.ignoredD9Mem1 m) := fun _ => rfl
theorem ignoredD9D1 : Statement .ignoredD9D1 := fun _ => rfl
theorem ignoredD9D2 : Statement .ignoredD9D2 := fun _ => rfl
theorem ignoredD9D3 : Statement .ignoredD9D3 := fun _ => rfl
theorem ignoredD9D4 : Statement .ignoredD9D4 := fun _ => rfl
theorem ignoredD9D5 : Statement .ignoredD9D5 := fun _ => rfl
theorem ignoredD9D6 : Statement .ignoredD9D6 := fun _ => rfl
theorem ignoredD9D7 : Statement .ignoredD9D7 := fun _ => rfl
theorem ignoredD9Reg3 (i : BitVec 3) : Statement (.ignoredD9Reg3 i) := fun _ => rfl
theorem ignoredD9E2 : Statement .ignoredD9E2 := fun _ => rfl
theorem ignoredD9E3 : Statement .ignoredD9E3 := fun _ => rfl
theorem ignoredD9E6 : Statement .ignoredD9E6 := fun _ => rfl
theorem ignoredD9E7 : Statement .ignoredD9E7 := fun _ => rfl
theorem ignoredD9Ef : Statement .ignoredD9Ef := fun _ => rfl
theorem ignoredD9F5 : Statement .ignoredD9F5 := fun _ => rfl
theorem ignoredD9Fb : Statement .ignoredD9Fb := fun _ => rfl
theorem ignoredD9Fe : Statement .ignoredD9Fe := fun _ => rfl
theorem ignoredD9Ff : Statement .ignoredD9Ff := fun _ => rfl
theorem ignoredDbMem1 (m : MemOperand) : Statement (.ignoredDbMem1 m) := fun _ => rfl
theorem ignoredDbMem4 (m : MemOperand) : Statement (.ignoredDbMem4 m) := fun _ => rfl
theorem ignoredDbMem6 (m : MemOperand) : Statement (.ignoredDbMem6 m) := fun _ => rfl
theorem ignoredDbReg (op rm : BitVec 3) : Statement (.ignoredDbReg op rm) := by revert op rm; unfold Statement; decide
theorem ignoredDcReg2 (i : BitVec 3) : Statement (.ignoredDcReg2 i) := fun _ => rfl
theorem ignoredDcReg3 (i : BitVec 3) : Statement (.ignoredDcReg3 i) := fun _ => rfl
theorem ignoredDeReg2 (i : BitVec 3) : Statement (.ignoredDeReg2 i) := fun _ => rfl
theorem ignoredDdMem1 (m : MemOperand) : Statement (.ignoredDdMem1 m) := fun _ => rfl
theorem ignoredDdMem4 (m : MemOperand) : Statement (.ignoredDdMem4 m) := fun _ => rfl
theorem ignoredDdMem5 (m : MemOperand) : Statement (.ignoredDdMem5 m) := fun _ => rfl
theorem ignoredDdMem6 (m : MemOperand) : Statement (.ignoredDdMem6 m) := fun _ => rfl
theorem ignoredDdReg (op rm : BitVec 3) : Statement (.ignoredDdReg op rm) := by revert op rm; unfold Statement; decide
theorem ignoredDfMem1 (m : MemOperand) : Statement (.ignoredDfMem1 m) := fun _ => rfl
theorem ignoredDfMem4 (m : MemOperand) : Statement (.ignoredDfMem4 m) := fun _ => rfl
theorem ignoredDfMem6 (m : MemOperand) : Statement (.ignoredDfMem6 m) := fun _ => rfl
theorem ignoredDfReg (op rm : BitVec 3) : Statement (.ignoredDfReg op rm) := by revert op rm; unfold Statement; decide

end Sys2Proof.Laws.ReadBack
end

