-- ==== Sys2Proof/Tests/Slice0.lean ====
section
/-! SUPPORT. Tests of the model against spec/95_test_vectors.md and the tables of spec/30_encoding.md, and the
witnesses that the hypotheses of the obligations can be met. Expected values are the spec's. -/

namespace Sys2Proof.Tests

open Sys2Proof.Machine

set_option Elab.async false

/-! ### WellFormed refuses each ill-formed term -/

theorem test_wf_rm6_without_displacement : (Instr.faddM32real (.based 6 .none)).wellFormed = false := by decide
theorem test_wf_rm6_in_segovr : (Instr.segovr 0x18 ⟨0, .mem (.based 6 .none)⟩).wellFormed = false := by decide
theorem test_wf_db_reg : (Instr.ignoredDbReg 4 2).wellFormed = false ∧ (Instr.ignoredDbReg 4 3).wellFormed = false ∧
    (Instr.ignoredDbReg 4 4).wellFormed = true := by decide
theorem test_wf_dd_reg : (Instr.ignoredDdReg 0 1).wellFormed = false ∧ (Instr.ignoredDdReg 2 1).wellFormed = false ∧
    (Instr.ignoredDdReg 3 1).wellFormed = false ∧ (Instr.ignoredDdReg 1 1).wellFormed = true := by decide
theorem test_wf_df_reg : (Instr.ignoredDfReg 4 0).wellFormed = false ∧ (Instr.ignoredDfReg 4 1).wellFormed = true := by
  decide

/-! ### Decoding: one word of every constructor, from the opcode map (spec R106, R107), and the operand forms -/

/-- The bytes `CD vv ModRM` decode to the instruction. -/
def decodesTo (vv : Byte) (p : Byte × Instr) : Bool :=
  match decode 0x34 [0xCD, vv, p.1] with
  | .ok (i, []) => decide (i = p.2)
  | _ => false

theorem test_decode_d8 :
    [(0x07, .faddM32real (.based 7 .none)), (0x0F, .fmulM32real (.based 7 .none)), (0x17, .fcomM32real (.based 7 .none)),
     (0x1F, .fcompM32real (.based 7 .none)), (0x27, .fsubM32real (.based 7 .none)), (0x2F, .fsubrM32real (.based 7 .none)),
     (0x37, .fdivM32real (.based 7 .none)), (0x3F, .fdivrM32real (.based 7 .none)), (0xD5, .ignoredD8Reg 2 5)].all (decodesTo 0x34) = true := by decide +kernel
theorem test_decode_d9 :
    [(0x07, .fldM32real (.based 7 .none)), (0x17, .fstM32real (.based 7 .none)), (0x1F, .fstpM32real (.based 7 .none)),
     (0xC5, .fldSti 5), (0xCD, .fxchSti 5), (0xE8, .fld1),
     (0xE9, .fldl2t), (0xEA, .fldl2e), (0xEB, .fldpi),
     (0xEC, .fldlg2), (0xED, .fldln2), (0xEE, .fldz),
     (0xE0, .fchs), (0xE1, .fabs), (0xE4, .ftst),
     (0xE5, .fxam), (0xF0, .f2xm1), (0xF1, .fyl2x),
     (0xF2, .fptan), (0xF3, .fpatan), (0xF4, .fxtract),
     (0xF6, .fdecstp), (0xF7, .fincstp), (0xF8, .fprem),
     (0xF9, .fyl2xp1), (0xFA, .fsqrt), (0xFC, .frndint),
     (0xFD, .fscale), (0xD0, .fnop), (0x27, .fldenvM14 (.based 7 .none)),
     (0x2F, .fldcwM16 (.based 7 .none)), (0x37, .fstenvM14 (.based 7 .none)), (0x3F, .fstcwM16 (.based 7 .none)),
     (0x0F, .ignoredD9Mem1 (.based 7 .none)), (0xD1, .ignoredD9D1), (0xD2, .ignoredD9D2),
     (0xD3, .ignoredD9D3), (0xD4, .ignoredD9D4), (0xD5, .ignoredD9D5),
     (0xD6, .ignoredD9D6), (0xD7, .ignoredD9D7), (0xDD, .ignoredD9Reg3 5),
     (0xE2, .ignoredD9E2), (0xE3, .ignoredD9E3), (0xE6, .ignoredD9E6),
     (0xE7, .ignoredD9E7), (0xEF, .ignoredD9Ef), (0xF5, .ignoredD9F5),
     (0xFB, .ignoredD9Fb), (0xFE, .ignoredD9Fe), (0xFF, .ignoredD9Ff)].all (decodesTo 0x35) = true := by decide +kernel
theorem test_decode_da :
    [(0x07, .fiaddM32int (.based 7 .none)), (0x0F, .fimulM32int (.based 7 .none)), (0x17, .ficomM32int (.based 7 .none)),
     (0x1F, .ficompM32int (.based 7 .none)), (0x27, .fisubM32int (.based 7 .none)), (0x2F, .fisubrM32int (.based 7 .none)),
     (0x37, .fidivM32int (.based 7 .none)), (0x3F, .fidivrM32int (.based 7 .none)), (0xD5, .ignoredDaReg 2 5)].all (decodesTo 0x36) = true := by decide +kernel
theorem test_decode_db :
    [(0x07, .fildM32int (.based 7 .none)), (0x17, .fistM32int (.based 7 .none)), (0x1F, .fistpM32int (.based 7 .none)),
     (0x2F, .fldM80real (.based 7 .none)), (0x3F, .fstpM80real (.based 7 .none)), (0xE3, .finit),
     (0xE2, .fclex), (0x0F, .ignoredDbMem1 (.based 7 .none)), (0x27, .ignoredDbMem4 (.based 7 .none)),
     (0x37, .ignoredDbMem6 (.based 7 .none)), (0xE4, .ignoredDbReg 4 4)].all (decodesTo 0x37) = true := by decide +kernel
theorem test_decode_dc :
    [(0x07, .faddM64real (.based 7 .none)), (0x0F, .fmulM64real (.based 7 .none)), (0x17, .fcomM64real (.based 7 .none)),
     (0x1F, .fcompM64real (.based 7 .none)), (0x27, .fsubM64real (.based 7 .none)), (0x2F, .fsubrM64real (.based 7 .none)),
     (0x37, .fdivM64real (.based 7 .none)), (0x3F, .fdivrM64real (.based 7 .none)), (0xC5, .faddStiSt 5),
     (0xCD, .fmulStiSt 5), (0xE5, .fsubrStiSt 5), (0xED, .fsubStiSt 5),
     (0xF5, .fdivrStiSt 5), (0xFD, .fdivStiSt 5), (0xD5, .ignoredDcReg2 5),
     (0xDD, .ignoredDcReg3 5)].all (decodesTo 0x38) = true := by decide +kernel
theorem test_decode_dd :
    [(0x07, .fldM64real (.based 7 .none)), (0x17, .fstM64real (.based 7 .none)), (0x1F, .fstpM64real (.based 7 .none)),
     (0xD5, .fstSti 5), (0xDD, .fstpSti 5), (0x3F, .fstswM16 (.based 7 .none)),
     (0xC5, .ffreeSti 5), (0x0F, .ignoredDdMem1 (.based 7 .none)), (0x27, .ignoredDdMem4 (.based 7 .none)),
     (0x2F, .ignoredDdMem5 (.based 7 .none)), (0x37, .ignoredDdMem6 (.based 7 .none)), (0xCE, .ignoredDdReg 1 6)].all (decodesTo 0x39) = true := by decide +kernel
theorem test_decode_de :
    [(0x07, .fiaddM16int (.based 7 .none)), (0x0F, .fimulM16int (.based 7 .none)), (0x17, .ficomM16int (.based 7 .none)),
     (0x1F, .ficompM16int (.based 7 .none)), (0x27, .fisubM16int (.based 7 .none)), (0x2F, .fisubrM16int (.based 7 .none)),
     (0x37, .fidivM16int (.based 7 .none)), (0x3F, .fidivrM16int (.based 7 .none)), (0xC5, .faddpStiSt 5),
     (0xCD, .fmulpStiSt 5), (0xE5, .fsubrpStiSt 5), (0xED, .fsubpStiSt 5),
     (0xF5, .fdivrpStiSt 5), (0xFD, .fdivpStiSt 5), (0xDD, .fcompp 5),
     (0xD5, .ignoredDeReg2 5)].all (decodesTo 0x3A) = true := by decide +kernel
theorem test_decode_df :
    [(0x07, .fildM16int (.based 7 .none)), (0x17, .fistM16int (.based 7 .none)), (0x1F, .fistpM16int (.based 7 .none)),
     (0x2F, .fildM64int (.based 7 .none)), (0x3F, .fistpM64int (.based 7 .none)), (0xE0, .fstswAx),
     (0x0F, .ignoredDfMem1 (.based 7 .none)), (0x27, .ignoredDfMem4 (.based 7 .none)), (0x37, .ignoredDfMem6 (.based 7 .none)),
     (0xE3, .ignoredDfReg 4 3)].all (decodesTo 0x3B) = true := by decide +kernel

/-- SEGOVR with SE = 0xDF (DF, ES) and with SE = 0x19 (D9, DS), and FWAIT (spec R90, R92; TRAP-2, TRAP-3, TRAP-4). -/
theorem test_decode_segovr :
    (decode 0x34 [0xCD, 0x3C, 0xDF, 0x42, 0x04]).toOption =
      some (.segovr 0xDF ⟨0, .mem (.based 2 (.byte 0x04))⟩, []) ∧
    (decode 0x34 [0xCD, 0x3C, 0x19, 0xE8]).toOption = some (.segovr 0x19 ⟨5, .reg 0⟩, []) ∧
    (Instr.segovr 0xDF ⟨0, .mem (.based 2 (.byte 0x04))⟩).selected = .fildM16int (.based 2 (.byte 0x04)) ∧
    (Instr.segovr 0x19 ⟨5, .reg 0⟩).selected = .fld1 ∧ seCode 0xDF = 3 ∧ seCode 0x19 = 0 ∧
    (decode 0x34 [0xCD, 0x3D, 0x90]).toOption = some (.fwait, [0x90]) := by decide +kernel

/-- The displacements, low byte first, and the bytes after the sequence (spec R98, R100). -/
theorem test_decode_displacements :
    (decode 0x34 [0xCD, 0x34, 0x06, 0x34, 0x12, 0x99]).toOption = some (.faddM32real (.direct 0x1234), [0x99]) ∧
    (decode 0x34 [0xCD, 0x34, 0x46, 0xF0]).toOption = some (.faddM32real (.based 6 (.byte 0xF0)), []) ∧
    (decode 0x34 [0xCD, 0x34, 0x87, 0x34, 0x12]).toOption = some (.faddM32real (.based 7 (.word 0x1234)), []) ∧
    (decode 0x34 [0xCD, 0x34, 0x87, 0x34]).toOption = none ∧ (decode 0x34 [0xCD, 0x3E, 0xC0]).toOption = none ∧
    (decode 0x34 [0xCC, 0x34, 0xC0]).toOption = none := by decide +kernel

/-- DEC-1 and DEC-3: the effective offset and segment of every memory form, as (ModRM, b1, b2, offset, in SS). -/
def addressed (bx si di bp : Word) (p : Byte × Byte × Byte × Word × Bool) : Bool :=
  match (decodeDescriptor p.1 p.2.1 p.2.2.1).operand with
  | .mem m =>
    let s := { State.reset with guest := { Guest.reset with
      bx := bx, si := si, di := di, bp := bp, ds := 0x3000, ss := 0x2000 } }
    s.eaOff m == p.2.2.2.1 && s.eaSeg m == (if p.2.2.2.2 then (0x2000 : Word) else 0x3000)
  | .reg _ => false

theorem test_dec1 :
    [(0x00, 0, 0, 0x1020, false), (0x01, 0, 0, 0x1030, false), (0x02, 0, 0, 0x2020, true), (0x03, 0, 0, 0x2030, true),
     (0x04, 0, 0, 0x0020, false), (0x05, 0, 0, 0x0030, false), (0x06, 0x34, 0x12, 0x1234, true),
     (0x07, 0, 0, 0x1000, false), (0x40, 0xF0, 0, 0x1010, false), (0x41, 0xF0, 0, 0x1020, false),
     (0x42, 0xF0, 0, 0x2010, true), (0x43, 0xF0, 0, 0x2020, true), (0x44, 0xF0, 0, 0x0010, false),
     (0x45, 0xF0, 0, 0x0020, false), (0x46, 0xF0, 0, 0x1FF0, true), (0x47, 0xF0, 0, 0x0FF0, false),
     (0x80, 0x34, 0x12, 0x2254, false), (0x83, 0x34, 0x12, 0x3264, true), (0x84, 0x34, 0x12, 0x1254, false),
     (0x86, 0x34, 0x12, 0x3234, true), (0x87, 0x34, 0x12, 0x2234, false)].all
      (addressed 0x1000 0x0020 0x0030 0x2000) = true := by decide +kernel

theorem test_dec3 :
    [(0x00, 0, 0, 0x0010, false), (0x46, 0xF0, 0, 0xFFF8, true), (0x87, 0x20, 0x00, 0x0010, false)].all
      (addressed 0xFFF0 0x0020 0 0x0008) = true := by decide +kernel

/-! ### The bench -/

/-- The block right after FINIT with values pushed: the first is ST(0). -/
def stackOf : List Double → Block
  | [] => Block.reset
  | v :: rest => (stackOf rest).push v

/-- The start state of the vectors: inside a trap taken at 0x1000:0x0100, BX = 0x0200 and DS = 0x1000, the operand
bytes at DS:BX. -/
def bench (stack : List Double) (data : List Byte) : State :=
  ({ State.reset with
      block := stackOf stack
      guest := { Guest.reset with bx := 0x0200, ds := 0x1000, ss := 0x2000, sp := 0x0FFA, cs := 0x1000 }
      inTransaction := true }.placeBytes 0x2000 0x0FFA [0x02, 0x01, 0x00, 0x10]).placeBytes 0x1000 0x0200 data

/-- The bench with a status word. -/
def benchSw (sw : Word) : State := (bench [] []).onBlock fun b => { b with sw := sw }

/-- The state after the transaction of a trap sequence, seen through `view`. -/
def after {α : Type} (bytes : List Byte) (s : State) (view : State → α) : Option α :=
  match decode 0x34 bytes with
  | .ok (i, []) =>
    (match exec i s with
     | .next t => some (view t)
     | _ => none)
  | _ => none

/-- TOP and ST(0). -/
def value (s : State) : BitVec 3 × Double := (s.block.top, s.block.getST 0)

/-- TOP, ST(0) and ST(1). -/
def pair (s : State) : BitVec 3 × Double × Double := (s.block.top, s.block.getST 0, s.block.getST 1)

/-- TOP, C3, C2 and C0. -/
def codes (s : State) : BitVec 3 × Bool × Bool × Bool := (s.block.top, swC3 s.block.sw, swC2 s.block.sw, swC0 s.block.sw)

/-- C3, C2, C1 and C0. -/
def allCodes (s : State) : Bool × Bool × Bool × Bool :=
  (swC3 s.block.sw, swC2 s.block.sw, swC1 s.block.sw, swC0 s.block.sw)

/-- The first n bytes at DS:BX. -/
def dataBytes (s : State) (n : Nat) : List Byte := (List.range n).map fun k => s.read8 0x1000 (0x0200 + BitVec.ofNat 16 k)

/-- TOP and the first n bytes at DS:BX. -/
def stored (n : Nat) (s : State) : BitVec 3 × List Byte := (s.block.top, dataBytes s n)

/-- An ignored form: only RetIP moves, by one. -/
def ignoredOk (bytes : List Byte) : Bool :=
  after bytes (bench [0x3FF0000000000000] [0x11, 0x22])
    (fun t => (t.block, t.mem)) ==
  some ((bench [0x3FF0000000000000] [0x11, 0x22]).block, ((bench [0x3FF0000000000000] [0x11, 0x22]).setRetIP 0x0103).mem)

/-! ### Arithmetic, memory forms (spec 95_test_vectors.md 2.6) -/

theorem test_fadd_m32 : after [0xCD, 0x34, 0x07] (bench [0x3FC999999999999A] [0xCD, 0xCC, 0xCC, 0x3D]) value =
    some (7, 0x3FD3333334CCCCCD) := by decide +kernel -- ARM-1
theorem test_fadd_m32_negzero : after [0xCD, 0x34, 0x07] (bench [0x8000000000000000] [0x00, 0x00, 0x00, 0x00]) value =
    some (7, 0x0000000000000000) := by decide +kernel -- ARM-3
theorem test_fmul_m32 : after [0xCD, 0x34, 0x0F] (bench [0x8000000000000000] [0x00, 0x00, 0xA0, 0x40]) value =
    some (7, 0x8000000000000000) := by decide +kernel -- ARM-6
theorem test_fmul_m32_overflow : after [0xCD, 0x34, 0x0F]
    (bench [0x7FE1CCF385EBC8A0] [0x00, 0x00, 0x20, 0x41]) value =
    some (7, 0x7FF0000000000000) := by decide +kernel -- ARM-7
theorem test_fcom_m32 : after [0xCD, 0x34, 0x17] (bench [0x0000000000000000] [0x00, 0x00, 0x00, 0x80]) codes =
    some (7, true, false, false) := by decide +kernel -- ARM-8
theorem test_fcomp_m32 : after [0xCD, 0x34, 0x1F] (bench [0xFFF0000000000000] [0x00, 0x00, 0x80, 0x3F]) codes =
    some (0, false, false, true) := by decide +kernel -- ARM-10
theorem test_fsub_m32 : after [0xCD, 0x34, 0x27] (bench [0x4008000000000000] [0x00, 0x00, 0x40, 0x40]) value =
    some (7, 0x0000000000000000) := by decide +kernel -- ARM-11
theorem test_fsubr_m32 : after [0xCD, 0x34, 0x2F] (bench [0x4008000000000000] [0x00, 0x00, 0x80, 0x3F]) value =
    some (7, 0xC000000000000000) := by decide +kernel -- ARM-12
theorem test_fdiv_m32 : after [0xCD, 0x34, 0x37] (bench [0x3FF0000000000000] [0x00, 0x00, 0x00, 0x80]) value =
    some (7, 0xFFF0000000000000) := by decide +kernel -- ARM-13
theorem test_fdivr_m32 : after [0xCD, 0x34, 0x3F] (bench [0x8000000000000000] [0x00, 0x00, 0xA0, 0x40]) value =
    some (7, 0xFFF0000000000000) := by decide +kernel -- ARM-16
theorem test_fiadd_m32 : after [0xCD, 0x36, 0x07] (bench [0x3FE0000000000000] [0x00, 0x00, 0x00, 0x80]) value =
    some (7, 0xC1DFFFFFFFE00000) := by decide +kernel -- R199
theorem test_fimul_m32 : after [0xCD, 0x36, 0x0F] (bench [0x3FE0000000000000] [0xFF, 0xFF, 0xFF, 0x7F]) value =
    some (7, 0x41CFFFFFFFC00000) := by decide +kernel -- ARM-18
theorem test_ficom_m32 : after [0xCD, 0x36, 0x17] (bench [0xC020000000000000] [0xF9, 0xFF, 0xFF, 0xFF]) codes =
    some (7, false, false, true) := by decide +kernel -- R201
theorem test_ficomp_m32 : after [0xCD, 0x36, 0x1F] (bench [0x401C000000000000] [0x07, 0x00, 0x00, 0x00]) codes =
    some (0, true, false, false) := by decide +kernel -- ARM-23
theorem test_fisub_m32 : after [0xCD, 0x36, 0x27] (bench [0x4004000000000000] [0xFB, 0xFF, 0xFF, 0xFF]) value =
    some (7, 0x401E000000000000) := by decide +kernel -- R203
theorem test_fisubr_m32 : after [0xCD, 0x36, 0x2F] (bench [0x4004000000000000] [0xFB, 0xFF, 0xFF, 0xFF]) value =
    some (7, 0xC01E000000000000) := by decide +kernel -- R204
theorem test_fidiv_m32 : after [0xCD, 0x36, 0x37] (bench [0x4014000000000000] [0x02, 0x00, 0x00, 0x00]) value =
    some (7, 0x4004000000000000) := by decide +kernel -- R205
theorem test_fidivr_m32 : after [0xCD, 0x36, 0x3F] (bench [0x4010000000000000] [0x0A, 0x00, 0x00, 0x00]) value =
    some (7, 0x4004000000000000) := by decide +kernel -- ARM-20
theorem test_fadd_m64 : after [0xCD, 0x38, 0x07]
    (bench [0x0000000000000001] [0x01, 0x00, 0x00, 0x00, 0x00, 0x00, 0x00, 0x80]) value =
    some (7, 0x0000000000000000) := by decide +kernel -- ARM-25
theorem test_fmul_m64 : after [0xCD, 0x38, 0x0F]
    (bench [0x000012688B70E62B] [0xBB, 0xBD, 0xD7, 0xD9, 0xDF, 0x7C, 0xDB, 0x3D]) value =
    some (7, 0x00000000000007E8) := by decide +kernel -- ARM-26
theorem test_fcom_m64 : after [0xCD, 0x38, 0x17]
    (bench [0x4000000000000000] [0x00, 0x00, 0x00, 0x00, 0x00, 0x00, 0xF0, 0x3F]) codes =
    some (7, false, false, false) := by decide +kernel -- R209
theorem test_fcomp_m64 : after [0xCD, 0x38, 0x1F]
    (bench [0x7FF8000000000000, 0x7FF8000000000000, 0x7FF8000000000000, 0x7FF8000000000000, 0x7FF8000000000000] [0x00, 0x00, 0x00, 0x00, 0x00, 0x00, 0xF0, 0x3F]) codes =
    some (4, true, true, true) := by decide +kernel -- R210, ARM-27
theorem test_fsub_m64 : after [0xCD, 0x38, 0x27]
    (bench [0x4341C37937E08000] [0x00, 0x00, 0x00, 0x00, 0x00, 0x00, 0xF0, 0xBF]) value =
    some (7, 0x4341C37937E08000) := by decide +kernel -- ARM-24
theorem test_fsubr_m64 : after [0xCD, 0x38, 0x2F]
    (bench [0x4008000000000000] [0x00, 0x00, 0x00, 0x00, 0x00, 0x00, 0xF0, 0x3F]) value =
    some (7, 0xC000000000000000) := by decide +kernel -- R212
theorem test_fdiv_m64 : after [0xCD, 0x38, 0x37]
    (bench [0x4008000000000000] [0x00, 0x00, 0x00, 0x00, 0x00, 0x00, 0x00, 0xC0]) value =
    some (7, 0xBFF8000000000000) := by decide +kernel -- R213
theorem test_fdivr_m64 : after [0xCD, 0x38, 0x3F]
    (bench [0x4008000000000000] [0x00, 0x00, 0x00, 0x00, 0x00, 0x00, 0xF0, 0x3F]) value =
    some (7, 0x3FD5555555555555) := by decide +kernel -- ARM-28
theorem test_fiadd_m16 : after [0xCD, 0x3A, 0x07] (bench [0x3FE0000000000000] [0x00, 0x80]) value =
    some (7, 0xC0DFFFE000000000) := by decide +kernel -- ARM-17
theorem test_fimul_m16 : after [0xCD, 0x3A, 0x0F] (bench [0x3FE0000000000000] [0xFD, 0xFF]) value =
    some (7, 0xBFF8000000000000) := by decide +kernel -- R216
theorem test_ficom_m16 : after [0xCD, 0x3A, 0x17] (bench [0x8000000000000000] [0x00, 0x00]) codes =
    some (7, true, false, false) := by decide +kernel -- ARM-21
theorem test_ficomp_m16 : after [0xCD, 0x3A, 0x1F] (bench [0xBFE0000000000000] [0xFF, 0xFF]) codes =
    some (0, false, false, false) := by decide +kernel -- R218
theorem test_fisub_m16 : after [0xCD, 0x3A, 0x27] (bench [0x4004000000000000] [0xFB, 0xFF]) value =
    some (7, 0x401E000000000000) := by decide +kernel -- R219
theorem test_fisubr_m16 : after [0xCD, 0x3A, 0x2F] (bench [0x4004000000000000] [0xFB, 0xFF]) value =
    some (7, 0xC01E000000000000) := by decide +kernel -- ARM-22
theorem test_fidiv_m16 : after [0xCD, 0x3A, 0x37] (bench [0xBFF0000000000000] [0x00, 0x00]) value =
    some (7, 0xFFF0000000000000) := by decide +kernel -- ARM-19
theorem test_fidivr_m16 : after [0xCD, 0x3A, 0x3F] (bench [0x4010000000000000] [0x0A, 0x00]) value =
    some (7, 0x4004000000000000) := by decide +kernel -- R222
/-! ### Arithmetic, register forms (2.7) -/

theorem test_fadd_sti : after [0xCD, 0x38, 0xC1] (bench [0x3FF0000000000000, 0x4000000000000000] []) pair =
    some (6, 0x3FF0000000000000, 0x4008000000000000) := by decide +kernel -- ARR-1
theorem test_fadd_st0 : after [0xCD, 0x38, 0xC0] (bench [0x3FF8000000000000, 0x4000000000000000] []) pair =
    some (6, 0x4008000000000000, 0x4000000000000000) := by decide +kernel -- ARR-2
theorem test_fmul_sti : after [0xCD, 0x38, 0xC9] (bench [0x4008000000000000, 0xBFE0000000000000] []) pair =
    some (6, 0x4008000000000000, 0xBFF8000000000000) := by decide +kernel -- R225
theorem test_fsubr_sti : after [0xCD, 0x38, 0xE1] (bench [0x3FF0000000000000, 0x4010000000000000] []) pair =
    some (6, 0x3FF0000000000000, 0xC008000000000000) := by decide +kernel -- ARR-4
theorem test_fsub_sti : after [0xCD, 0x38, 0xE9] (bench [0x3FF0000000000000, 0x4010000000000000] []) pair =
    some (6, 0x3FF0000000000000, 0x4008000000000000) := by decide +kernel -- ARR-5
theorem test_fdivr_sti : after [0xCD, 0x38, 0xF1] (bench [0x3FF0000000000000, 0x4010000000000000] []) pair =
    some (6, 0x3FF0000000000000, 0x3FD0000000000000) := by decide +kernel -- ARR-6
theorem test_fdiv_sti : after [0xCD, 0x38, 0xF9] (bench [0x0000000000000000, 0x4010000000000000] []) pair =
    some (6, 0x0000000000000000, 0x7FF0000000000000) := by decide +kernel -- ARR-8
theorem test_faddp_sti : after [0xCD, 0x3A, 0xC1] (bench [0x3FF0000000000000, 0x4000000000000000] []) value =
    some (7, 0x4008000000000000) := by decide +kernel -- ARR-9
theorem test_faddp_st0 : after [0xCD, 0x3A, 0xC0]
    (bench [0x3FF8000000000000, 0x4000000000000000] []) (fun t => (t.block.top, t.block.getST 0, t.block.reg 6, t.block.tag 6)) =
    some (7, 0x4000000000000000, 0x4008000000000000, .empty) := by decide +kernel -- ARR-10
theorem test_fmulp_sti : after [0xCD, 0x3A, 0xC9] (bench [0x4008000000000000, 0xBFE0000000000000] []) value =
    some (7, 0xBFF8000000000000) := by decide +kernel -- ARR-11
theorem test_fsubrp_sti : after [0xCD, 0x3A, 0xE1] (bench [0x3FF0000000000000, 0x4010000000000000] []) value =
    some (7, 0xC008000000000000) := by decide +kernel -- ARR-12
theorem test_fsubp_sti : after [0xCD, 0x3A, 0xE9] (bench [0x3FF0000000000000, 0x4010000000000000] []) value =
    some (7, 0x4008000000000000) := by decide +kernel -- ARR-13
theorem test_fdivrp_sti : after [0xCD, 0x3A, 0xF1] (bench [0x4000000000000000, 0x3FF0000000000000] []) value =
    some (7, 0x4000000000000000) := by decide +kernel -- ARR-14
theorem test_fdivp_sti : after [0xCD, 0x3A, 0xF9] (bench [0x4000000000000000, 0x3FF0000000000000] []) value =
    some (7, 0x3FE0000000000000) := by decide +kernel -- ARR-15
theorem test_fcompp : after [0xCD, 0x3A, 0xD9]
    (bench [0x4000000000000000, 0x4000000000000000] []) (fun t => (t.block.top, t.block.sw, tagWord t.block.tags)) =
    some (0, 0x4000, 0xFFFF) := by decide +kernel -- ARR-16
theorem test_fcompp_rm7_nan : after [0xCD, 0x3A, 0xDF] (bench [0x7FF8000000000000, 0x3FF0000000000000] []) codes =
    some (0, true, true, true) := by decide +kernel -- ARR-17
/-! ### Loads, stores, moves and constants (2.8) -/

theorem test_fld_m32 : after [0xCD, 0x35, 0x07]
    (bench [] [0x01, 0x00, 0x00, 0x00]) (fun t => (t.block.top, t.block.getST 0, t.block.tag 7)) =
    some (7, 0x36A0000000000000, .valid) := by decide +kernel -- LS-1
theorem test_fst_m32 : after [0xCD, 0x35, 0x17] (bench [0x483D6329F1C35CA5] []) (stored 4) =
    some (7, [0x00, 0x00, 0x80, 0x7F]) := by decide +kernel -- LS-3
theorem test_fst_m32_tie : after [0xCD, 0x35, 0x17] (bench [0x4170000010000000] []) (stored 4) =
    some (7, [0x00, 0x00, 0x80, 0x4B]) := by decide +kernel -- LS-5
theorem test_fstp_m32 : after [0xCD, 0x35, 0x1F] (bench [0x3690000000000000] []) (stored 4) =
    some (0, [0x00, 0x00, 0x00, 0x00]) := by decide +kernel -- LS-4
theorem test_fstp_m32_subnormal : after [0xCD, 0x35, 0x1F] (bench [0x37A16C262777579C] []) (stored 4) =
    some (0, [0xC2, 0x16, 0x01, 0x00]) := by decide +kernel -- E1
theorem test_fild_m32 : after [0xCD, 0x37, 0x07] (bench [] [0x00, 0x00, 0x00, 0x80]) value =
    some (7, 0xC1E0000000000000) := by decide +kernel -- LS-10
theorem test_fist_m32_nan : after [0xCD, 0x37, 0x17] (bench [0x7FF8000000000000] []) (stored 4) =
    some (7, [0x00, 0x00, 0x00, 0x80]) := by decide +kernel -- LS-15
theorem test_fistp_m32 : after [0xCD, 0x37, 0x1F] (bench [0x4202A05F20000000] []) (stored 4) =
    some (0, [0x00, 0xE4, 0x0B, 0x54]) := by decide +kernel -- LS-16
theorem test_fld_m80_inf : after [0xCD, 0x37, 0x2F]
    (bench [] [0x00, 0x00, 0x00, 0x00, 0x00, 0x00, 0x00, 0x80, 0xFF, 0x7F]) (fun t => (t.block.top, t.block.getST 0, t.block.tag 7)) =
    some (7, 0x7FF0000000000000, .special) := by decide +kernel -- LS-19
theorem test_fld_m80 : after [0xCD, 0x37, 0x2F]
    (bench [] [0x00, 0xD0, 0xCC, 0xCC, 0xCC, 0xCC, 0xCC, 0xCC, 0xFB, 0x3F]) value =
    some (7, 0x3FB999999999999A) := by decide +kernel -- LS-20
theorem test_fstp_m80 : after [0xCD, 0x37, 0x3F] (bench [0xC000000000000000] []) (stored 10) =
    some (0, [0x00, 0x00, 0x00, 0x00, 0x00, 0x00, 0x00, 0x80, 0x00, 0xC0]) := by decide +kernel -- LS-21
theorem test_fstp_m80_subnormal : after [0xCD, 0x37, 0x3F] (bench [0x0000000000000001] []) (stored 10) =
    some (0, [0x00, 0x00, 0x00, 0x00, 0x00, 0x00, 0x00, 0x80, 0xCD, 0x3B]) := by decide +kernel -- LS-22
theorem test_fld_m64 : after [0xCD, 0x39, 0x07]
    (bench [] [0x00, 0x00, 0x00, 0x00, 0x00, 0x00, 0xF0, 0x7F]) (fun t => (t.block.top, t.block.getST 0, t.block.tag 7)) =
    some (7, 0x7FF0000000000000, .special) := by decide +kernel -- LS-6
theorem test_fst_m64 : after [0xCD, 0x39, 0x17] (bench [0xC004000000000000] []) (stored 8) =
    some (7, [0x00, 0x00, 0x00, 0x00, 0x00, 0x00, 0x04, 0xC0]) := by decide +kernel -- LS-7
theorem test_fstp_m64 : after [0xCD, 0x39, 0x1F] (bench [0x8000000000000000] []) (stored 8) =
    some (0, [0x00, 0x00, 0x00, 0x00, 0x00, 0x00, 0x00, 0x80]) := by decide +kernel -- LS-8
theorem test_fild_m16 : after [0xCD, 0x3B, 0x07] (bench [] [0xFF, 0xFF]) value =
    some (7, 0xBFF0000000000000) := by decide +kernel -- LS-9, at vector 0x3B
theorem test_fist_m16 : after [0xCD, 0x3B, 0x17] (bench [0xC00C000000000000] []) (stored 2) =
    some (7, [0xFC, 0xFF]) := by decide +kernel -- LS-13, at vector 0x3B
theorem test_fistp_m16 : after [0xCD, 0x3B, 0x1F] (bench [0x40DFFFE000000000] []) (stored 2) =
    some (0, [0x00, 0x80]) := by decide +kernel -- LS-14, at vector 0x3B
theorem test_fild_m64 : after [0xCD, 0x3B, 0x2F] (bench [] [0x01, 0x00, 0x00, 0x00, 0x00, 0x00, 0x20, 0x00]) value =
    some (7, 0x4340000000000000) := by decide +kernel -- LS-11, at vector 0x3B
theorem test_fistp_m64 : after [0xCD, 0x3B, 0x3F] (bench [0xC004000000000000] []) (stored 8) =
    some (0, [0xFE, 0xFF, 0xFF, 0xFF, 0xFF, 0xFF, 0xFF, 0xFF]) := by decide +kernel -- LS-17, at vector 0x3B
theorem test_fistp_m64_indefinite : after [0xCD, 0x3B, 0x3F] (bench [0x43E0000000000000] []) (stored 8) =
    some (0, [0x00, 0x00, 0x00, 0x00, 0x00, 0x00, 0x00, 0x80]) := by decide +kernel -- LS-18, at vector 0x3B
theorem test_fld_sti : after [0xCD, 0x35, 0xC1] (bench [0x3FF0000000000000, 0x4022000000000000] []) pair =
    some (5, 0x4022000000000000, 0x3FF0000000000000) := by decide +kernel -- R267
theorem test_fxch : after [0xCD, 0x35, 0xC9] (bench [0x3FF0000000000000, 0x4000000000000000] []) pair =
    some (6, 0x4000000000000000, 0x3FF0000000000000) := by decide +kernel -- LS-23
theorem test_fst_sti : after [0xCD, 0x39, 0xD2]
    (bench [0x4014000000000000] []) (fun t => (t.block.top, t.block.getST 2, t.block.tag 1)) =
    some (7, 0x4014000000000000, .valid) := by decide +kernel -- LS-25
theorem test_fstp_sti : after [0xCD, 0x39, 0xD9] (bench [0x4014000000000000, 0x401C000000000000] []) value =
    some (7, 0x4014000000000000) := by decide +kernel -- LS-26
theorem test_fld1 : after [0xCD, 0x35, 0xE8] (bench [] []) value =
    some (7, 0x3FF0000000000000) := by decide +kernel -- LS-27
theorem test_fldl2t : after [0xCD, 0x35, 0xE9] (bench [] []) value =
    some (7, 0x400A934F0979A371) := by decide +kernel -- LS-27
theorem test_fldl2e : after [0xCD, 0x35, 0xEA] (bench [] []) value =
    some (7, 0x3FF71547652B82FE) := by decide +kernel -- LS-27
theorem test_fldpi : after [0xCD, 0x35, 0xEB] (bench [] []) value =
    some (7, 0x400921FB54442D18) := by decide +kernel -- LS-27
theorem test_fldlg2 : after [0xCD, 0x35, 0xEC] (bench [] []) value =
    some (7, 0x3FD34413509F79FF) := by decide +kernel -- LS-27
theorem test_fldln2 : after [0xCD, 0x35, 0xED] (bench [] []) value =
    some (7, 0x3FE62E42FEFA39EF) := by decide +kernel -- LS-27
theorem test_fldz : after [0xCD, 0x35, 0xEE] (bench [] []) (fun t => (t.block.top, t.block.getST 0, t.block.tag 7)) =
    some (7, 0x0000000000000000, .zero) := by decide +kernel -- LS-27
/-! ### Signs, test, examine and the transcendental group (2.9) -/

theorem test_fchs_nan : after [0xCD, 0x35, 0xE0] (bench [0x7FF8000000000001] []) value =
    some (7, 0xFFF8000000000001) := by decide +kernel -- TR-1
theorem test_fabs : after [0xCD, 0x35, 0xE1] (bench [0xFFF0000000000000] []) value =
    some (7, 0x7FF0000000000000) := by decide +kernel -- TR-3
theorem test_ftst : after [0xCD, 0x35, 0xE4] (bench [0x8000000000000000] []) codes =
    some (7, true, false, false) := by decide +kernel -- TR-4
theorem test_ftst_subnormal : after [0xCD, 0x35, 0xE4] (bench [0x0000000000000001] []) codes =
    some (7, false, false, false) := by decide +kernel -- TR-6
theorem test_fxam_infinity : after [0xCD, 0x35, 0xE5] (bench [0xFFF0000000000000] []) allCodes =
    some (false, true, true, true) := by decide +kernel -- TR-10
theorem test_fxam_subnormal : after [0xCD, 0x35, 0xE5] (bench [0x0000000000000001] []) allCodes =
    some (false, true, false, false) := by decide +kernel -- TR-12
theorem test_f2xm1 : after [0xCD, 0x35, 0xF0] (bench [0x3FD0000000000000] []) value =
    some (7, 0x3FC837F0518DB8A9) := by decide +kernel -- TR-16
theorem test_f2xm1_small : after [0xCD, 0x35, 0xF0] (bench [0x3BC79CA10C924223] []) value =
    some (7, 0x3BC05DD14F56AA62) := by decide +kernel -- TR-17
theorem test_fyl2x : after [0xCD, 0x35, 0xF1] (bench [0x4008000000000000, 0x4000000000000000] []) value =
    some (7, 0x40095C01A39FBD68) := by decide +kernel -- TR-20
theorem test_fyl2x_one : after [0xCD, 0x35, 0xF1] (bench [0x3FF0000000000000, 0xC000000000000000] []) value =
    some (7, 0x8000000000000000) := by decide +kernel -- TR-24
theorem test_fptan : after [0xCD, 0x35, 0xF2] (bench [0x3FE921FB54442D18] []) pair =
    some (6, 0x3FF0000000000000, 0x3FEFFFFFFFFFFFFF) := by decide +kernel -- TR-25
theorem test_fpatan : after [0xCD, 0x35, 0xF3] (bench [0xBFF0000000000000, 0x3FF0000000000000] []) value =
    some (7, 0x4002D97C7F3321D2) := by decide +kernel -- TR-30
theorem test_fpatan_zero : after [0xCD, 0x35, 0xF3] (bench [0x0000000000000000, 0x8000000000000000] []) value =
    some (7, 0x8000000000000000) := by decide +kernel -- TR-33
theorem test_fxtract : after [0xCD, 0x35, 0xF4] (bench [0xBFD8000000000000] []) pair =
    some (6, 0xBFF8000000000000, 0xC000000000000000) := by decide +kernel -- TR-35
theorem test_fxtract_zero : after [0xCD, 0x35, 0xF4] (bench [0x8000000000000000] []) pair =
    some (6, 0x0000000000000000, 0xFFF0000000000000) := by decide +kernel -- TR-36
theorem test_fdecstp : after [0xCD, 0x35, 0xF6]
    (bench [] []) (fun t => (t.block.top, t.block.sw, tagWord t.block.tags)) =
    some (7, 0x3800, 0xFFFF) := by decide +kernel -- STK-12
theorem test_fincstp : after [0xCD, 0x35, 0xF7]
    (bench [0x3FF0000000000000] []) (fun t => (t.block.top, t.block.sw, tagWord t.block.tags)) =
    some (0, 0x0000, 0x3FFF) := by decide +kernel -- STK-11
theorem test_fprem : after [0xCD, 0x35, 0xF8] (bench [0x401C000000000000, 0x4000000000000000] []) value =
    some (6, 0xBFF0000000000000) := by decide +kernel -- TR-39
theorem test_fprem_zero : after [0xCD, 0x35, 0xF8] (bench [0xC010000000000000, 0x4000000000000000] []) value =
    some (6, 0x8000000000000000) := by decide +kernel -- TR-42
theorem test_fyl2xp1 : after [0xCD, 0x35, 0xF9] (bench [0x3FE0000000000000, 0x4008000000000000] []) value =
    some (7, 0x3FFC1404EADF383A) := by decide +kernel -- TR-47
theorem test_fyl2xp1_negzero : after [0xCD, 0x35, 0xF9] (bench [0x8000000000000000, 0x3FF0000000000000] []) value =
    some (7, 0x8000000000000000) := by decide +kernel -- TR-50
theorem test_fsqrt : after [0xCD, 0x35, 0xFA] (bench [0x4000000000000000] []) value =
    some (7, 0x3FF6A09E667F3BCD) := by decide +kernel -- TR-51
theorem test_fsqrt_subnormal : after [0xCD, 0x35, 0xFA] (bench [0x0000000000000001] []) value =
    some (7, 0x1E60000000000000) := by decide +kernel -- TR-54
theorem test_frndint_tie : after [0xCD, 0x35, 0xFC] (bench [0xC004000000000000] []) value =
    some (7, 0xC000000000000000) := by decide +kernel -- TR-55
theorem test_frndint_negzero : after [0xCD, 0x35, 0xFC] (bench [0xBFD999999999999A] []) value =
    some (7, 0x8000000000000000) := by decide +kernel -- TR-55
theorem test_fscale : after [0xCD, 0x35, 0xFD] (bench [0x3FF8000000000000, 0xC00599999999999A] []) value =
    some (6, 0x3FD8000000000000) := by decide +kernel -- TR-58
theorem test_fscale_tie : after [0xCD, 0x35, 0xFD] (bench [0x3FF0000000000000, 0xC090CC0000000000] []) value =
    some (6, 0x0000000000000000) := by decide +kernel -- TR-61
/-! ### Control and environment (2.10) -/

theorem test_fnop : after [0xCD, 0x35, 0xD0]
    (bench [0x3FF0000000000000] []) (fun t => (t.block == (bench [0x3FF0000000000000] []).block, t.retIP)) =
    some (true, 0x0103) := by decide +kernel -- CTL-9
theorem test_fldcw : after [0xCD, 0x35, 0x2F] (bench [] [0x7F, 0x0F]) (fun t => t.block.cw) =
    some 0x0F7F := by decide +kernel -- CTL-1
theorem test_fldenv : after [0xCD, 0x35, 0x27]
    (bench [0x3FF0000000000000] [0x7F, 0x03, 0xFF, 0xFF, 0x00, 0x00, 0x11, 0x11, 0x22, 0x22, 0x33, 0x33, 0x44, 0x44]) (fun t => (t.block.cw, t.block.sw, tagWord t.block.tags)) =
    some (0x037F, 0xFFFF, 0x0000) := by decide +kernel -- CTL-3
theorem test_fstenv : after [0xCD, 0x35, 0x37]
    (bench [] [0x11, 0x11, 0x11, 0x11, 0x11, 0x11, 0x11, 0x11, 0x11, 0x11, 0x11, 0x11, 0x11, 0x11]) (fun t => dataBytes t 14) =
    some [0x7F, 0x03, 0x00, 0x00, 0xFF, 0xFF, 0x00, 0x00, 0x00, 0x00, 0x00, 0x00, 0x00, 0x00] := by decide +kernel -- E15
theorem test_fstcw : after [0xCD, 0x35, 0x3F] (bench [] []) (fun t => dataBytes t 2) =
    some [0x7F, 0x03] := by decide +kernel -- E16
theorem test_fstsw_m16 : after [0xCD, 0x39, 0x3F] (benchSw 0x3900) (fun t => dataBytes t 2) =
    some [0x00, 0x39] := by decide +kernel -- CTL-6
theorem test_fstsw_ax : after [0xCD, 0x3B, 0xE0] (benchSw 0x4700) (fun t => t.guest.ax) =
    some 0x4700 := by decide +kernel -- CTL-7
theorem test_fclex : after [0xCD, 0x37, 0xE2] (benchSw 0xFFFF) (fun t => t.block.sw) =
    some 0x7F00 := by decide +kernel -- CTL-4
theorem test_finit : after [0xCD, 0x37, 0xE3]
    (benchSw 0xFFFF) (fun t => (t.block.cw, t.block.sw, tagWord t.block.tags)) =
    some (0x037F, 0x0000, 0xFFFF) := by decide +kernel -- CTL-8
theorem test_ffree : after [0xCD, 0x39, 0xC0]
    (bench [0x3FF0000000000000] []) (fun t => (t.block.top, t.block.reg 7, t.block.tag 7)) =
    some (7, 0x3FF0000000000000, .empty) := by decide +kernel -- CTL-10
theorem test_fwait : after [0xCD, 0x3D]
    (bench [0x3FF0000000000000] []) (fun t => (t.retIP, t.block == (bench [0x3FF0000000000000] []).block)) =
    some (0x0102, true) := by decide +kernel -- TRAP-4

/-! ### The ignored combinations change nothing and are passed over (CTL-12, ARR-19 to ARR-23) -/

theorem test_ignored_0 : ([[0xCD, 0x34, 0xC1],
    [0xCD, 0x36, 0xC1],
    [0xCD, 0x35, 0x0F],
    [0xCD, 0x35, 0xD1],
    [0xCD, 0x35, 0xD2],
    [0xCD, 0x35, 0xD3],
    [0xCD, 0x35, 0xD4],
    [0xCD, 0x35, 0xD5],
    [0xCD, 0x35, 0xD6],
    [0xCD, 0x35, 0xD7],
    [0xCD, 0x35, 0xDF],
    [0xCD, 0x35, 0xE2],
    [0xCD, 0x35, 0xE3],
    [0xCD, 0x35, 0xE6],
    [0xCD, 0x35, 0xE7],
    [0xCD, 0x35, 0xEF],
    [0xCD, 0x35, 0xF5],
    [0xCD, 0x35, 0xFB] ] : List (List Byte)).all ignoredOk = true := by decide +kernel
theorem test_ignored_1 : ([[0xCD, 0x35, 0xFE],
    [0xCD, 0x35, 0xFF],
    [0xCD, 0x37, 0x0F],
    [0xCD, 0x37, 0x27],
    [0xCD, 0x37, 0x37],
    [0xCD, 0x37, 0xE0],
    [0xCD, 0x38, 0xD1],
    [0xCD, 0x38, 0xD9],
    [0xCD, 0x3A, 0xD1],
    [0xCD, 0x39, 0x0F],
    [0xCD, 0x39, 0x27],
    [0xCD, 0x39, 0x2F],
    [0xCD, 0x39, 0x37],
    [0xCD, 0x39, 0xC8],
    [0xCD, 0x3B, 0x0F],
    [0xCD, 0x3B, 0x27],
    [0xCD, 0x3B, 0x37],
    [0xCD, 0x3B, 0xE1] ] : List (List Byte)).all ignoredOk = true := by decide +kernel

/-! ### Results that are NaN: the operation gives none, and its pattern is a free value (ARM-2, ARM-5, ARM-14, ARR-3,
TR-22, TR-23, TR-28, TR-44, TR-45, TR-53, TR-62, TR-65) -/

theorem test_nan_results :
    F64.add (F64.inf false) (F64.inf true) = none ∧ F64.mul 0 (F64.inf false) = none ∧ F64.div 0 0 = none ∧
    F64.mul (F64.zero true) (F64.inf false) = none ∧
    (Tr.log2 .reference 0).bind (F64.mul 0) = none ∧ Tr.log2 .reference 0xBFF0000000000000 = none ∧
    Tr.tan .reference (F64.inf false) = none ∧ F64.rem (F64.inf false) 0x4000000000000000 = none ∧
    F64.rem 0x3FF0000000000000 0 = none ∧ F64.sqrt 0xBFF0000000000000 = none ∧
    F64.scale .reference 0 (F64.inf false) = none ∧ F64.scale .reference (F64.inf false) (F64.inf true) = none := by
  decide +kernel

/-- E5 and the table of 2.4: the relations of special operands (spec R37). -/
theorem test_relations :
    F64.relation 0 (F64.zero true) = .equal ∧ F64.relation (F64.inf false) (F64.inf false) = .equal ∧
    F64.relation (F64.inf true) 0x3FF0000000000000 = .less ∧
    F64.relation (F64.inf false) 0x7FEFFFFFFFFFFFFF = .greater ∧ F64.relation 1 0 = .greater ∧
    F64.relation 0x3FF0000000000000 0x7FF8000000000001 = .unordered ∧
    F64.relation 0xBFF0000000000000 0xC000000000000000 = .greater := by decide +kernel

/-- COD-4: an unnormal, the edge band and the roundings of an 80-bit operand (spec R146, R147). -/
theorem test_cod4 :
    extendedToDouble .reference 0x3FFF4000000000000000 = some 0x3FE0000000000000 ∧
    extendedToDouble .reference 0x00008000000000000000 = some 0 ∧
    extendedToDouble .reference 0x43FF8000000000000000 = some (F64.inf false) ∧
    extendedToDouble .reference 0x43FEFFFFFFFFFFFFFFFF = some (F64.inf false) ∧
    extendedToDouble .reference 0x3BCD8000000000000000 = some 1 ∧
    extendedToDouble .reference 0x3BCC8000000000000000 = some 0 ∧
    extendedToDouble .reference 0x3FFF8000000000000C00 = some 0x3FF0000000000002 ∧
    extendedToDouble .reference 0x3FFF8000000000000401 = some 0x3FF0000000000001 := by decide +kernel

/-! ### Whole steps -/

/-- The guest at 0x1000:ip with SS:SP = 0x2000:0x1000 and a trap sequence at its program counter (2.2). -/
def guestAt (ip : Word) (code : List Byte) : State :=
  { State.reset with guest := { Guest.reset with
      cs := 0x1000, ip := ip, ss := 0x2000, sp := 0x1000, bp := 0x0FFA, ds := 0x1000, es := 0x4000, si := 0x0002,
      flags := 0x0302 } }.placeBytes 0x1000 ip code

/-- Where the guest resumes, its SP and FLAGS, TOP, and whether an override or a transaction is left. -/
def resumed (s : State) : Option (Word × Word × Word × Word × BitVec 3 × Bool) :=
  match step s with
  | .next t => some (t.guest.cs, t.guest.ip, t.guest.sp, t.guest.flags, t.block.top,
      t.guest.override.isSome || t.inTransaction)
  | _ => none

theorem test_trap1 : resumed (guestAt 0x0100 [0xCD, 0x35, 0xE8]) = some (0x1000, 0x0103, 0x1000, 0x0302, 7, false) := by
  decide +kernel
theorem test_trap2 : resumed (guestAt 0x0100 [0xCD, 0x3C, 0xDF, 0x42, 0x04]) =
    some (0x1000, 0x0105, 0x1000, 0x0302, 7, false) := by decide +kernel
theorem test_trap9 : resumed (guestAt 0xFFFD [0xCD, 0x35, 0xE8]) = some (0x1000, 0x0000, 0x1000, 0x0302, 7, false) := by
  decide +kernel

/-- TRAP-2: FILD m16int reads ES:u16(BP+SI+4), not SS. -/
theorem test_trap2_segment :
    (match step (((guestAt 0x0100 [0xCD, 0x3C, 0xDF, 0x42, 0x04]).placeBytes 0x4000 0x1000 [0x07, 0x00])) with
     | .next t => t.block.getST 0 | _ => 0) = 0x401C000000000000 := by decide +kernel

/-- TRAP-11: FISTP [BP+0] of 512.0 over RetIP; the guest resumes at 0x0202. -/
theorem test_trap11 : resumed ((guestAt 0x0100 [0xCD, 0x3B, 0x5E, 0x00]).onBlock fun _ => stackOf [0x4080000000000000]) =
    some (0x1000, 0x0202, 0x1000, 0x0302, 0, false) := by decide +kernel

/-- Why a step is refused. -/
def refusal (s : State) : Option Refusal :=
  match step s with
  | .refused r => some r
  | _ => none

/-- TRAP-13: a nested entry is refused; so is a byte that is no trap and a vector outside the ten (R4, R110). -/
theorem test_step_refusals :
    refusal { guestAt 0x0100 [0xCD, 0x35, 0xE8] with inTransaction := true } = some .nestedTrap ∧
    refusal (guestAt 0x0100 [0x90]) = some (.guestInstruction 0x90) ∧
    refusal (guestAt 0x0100 [0xCD, 0x21]) = some (.foreignVector 0x21) := by decide +kernel

/-- The reset state with FINIT placed: the slots FINIT leaves are free values, the rest is the spec's (R330). -/
theorem test_fetch_word :
    (match step (State.reset.withFetchWord 16 0xDBE3) with
     | .next t => (t.block.cw, t.block.sw, tagWord t.block.tags, t.guest.ip) | _ => (0, 0, 0, 0)) =
      (0x037F, 0x0000, 0xFFFF, 0x0003) ∧ decodeTableWord 16 0xDBE3 = some .finit := by decide +kernel


/-! ### Witnesses: states and operands that meet the hypotheses of the obligations -/

theorem witness_EncodeDecode : (Instr.segovr 0xDF ⟨0, .mem (.based 2 (.byte 0x04))⟩).wellFormed = true := by decide

/-- Every addressing form, the direct one and rm 6 with a displacement among them. -/
theorem witness_EffectiveOffset_SegmentResolution :
    (decodeDescriptor 0x06 0x34 0x12).operand = .mem (.direct 0x1234) ∧
    (decodeDescriptor 0x07 0x34 0x12).operand = .mem (.based 7 .none) ∧
    (decodeDescriptor 0x46 0xF0 0x12).operand = .mem (.based 6 (.byte 0xF0)) ∧
    (decodeDescriptor 0x86 0x34 0x12).operand = .mem (.based 6 (.word 0x1234)) := by decide +kernel

theorem witness_StepRunsDecoded :
    let s := guestAt 0x0100 [0xCD, 0x35, 0xE8]
    s.inTransaction = false ∧ s.read8 s.guest.cs s.guest.ip = 0xCD ∧
    TrapVector.ofNumber s.params.vecBase (s.read8 s.guest.cs (s.guest.ip + 1)) = some (.primary .d9) := by
  decide +kernel

/-- One state for each clause. -/
theorem witness_StepRefusals :
    ({ State.reset with inTransaction := true } : State).inTransaction = true ∧
    (State.reset.inTransaction = false ∧ State.reset.read8 State.reset.guest.cs State.reset.guest.ip ≠ 0xCD) ∧
    (let s := guestAt 0x0100 [0xCD, 0x3E]
     s.inTransaction = false ∧ s.read8 s.guest.cs s.guest.ip = 0xCD ∧
     TrapVector.ofNumber s.params.vecBase (s.read8 s.guest.cs (s.guest.ip + 1)) = none) := by decide +kernel

/-- FLD1 stores nothing, so its store spares the frame. -/
theorem witness_GuestAdvance :
    let s := guestAt 0x0100 [0xCD, 0x35, 0xE8]
    s.inTransaction = false ∧ s.read8 s.guest.cs s.guest.ip = 0xCD ∧
    TrapVector.ofNumber s.params.vecBase (s.read8 s.guest.cs (s.guest.ip + 1)) = some (.primary .d9) ∧
    ∀ a, Touches s.guest.ss (s.guest.sp - 6) 6 a → ¬ s.trapEntry.StoresAt (s.trapEntry.fetched (.primary .d9)) a := by
  refine ⟨by decide +kernel, by decide +kernel, by decide +kernel, fun a _ h => ?_⟩
  have e : (guestAt 0x0100 [0xCD, 0x35, 0xE8]).trapEntry.fetched (.primary .d9) = .fld1 := by decide +kernel
  rw [e] at h
  exact h

/-- [BP] addresses the frame word when BP is SP: rm 6 with a zero displacement, in SS. -/
theorem witness_PatchAdvances :
    let s := { bench [] [] with guest := { (bench [] []).guest with bp := 0x0FFA } }
    s.eaSeg (.based 6 (.byte 0)) = s.guest.ss ∧ s.eaOff (.based 6 (.byte 0)) = s.guest.sp := by decide +kernel

/-- An ignored row, and a state in which the DD register forms are ignored; each form that is none of them is not. -/
theorem witness_IgnoredCombinations : (Instr.ignoredD9D1).isIgnored = true ∧ (Instr.ffreeSti 0).isIgnored = false ∧
    ({ State.reset with params := { Params.default with ddRegForms := .ignored } } : State).params.ddRegForms =
      .ignored := by decide

theorem witness_StepKeepsInv : (guestAt 0x0100 [0xCD, 0x35, 0xE8]).Inv ∧
    ∃ t, step (guestAt 0x0100 [0xCD, 0x35, 0xE8]) = .next t := by
  refine ⟨⟨by decide +kernel, by decide +kernel, by decide +kernel⟩, ?_⟩
  have h : (match step (guestAt 0x0100 [0xCD, 0x35, 0xE8]) with | .next _ => true | _ => false) = true := by
    decide +kernel
  revert h
  cases step (guestAt 0x0100 [0xCD, 0x35, 0xE8]) with
  | next t => exact fun _ => ⟨t, rfl⟩
  | fault f => exact fun h => absurd h (by simp)
  | refused r => exact fun h => absurd h (by simp)

/-- FSTP m64real [BX] at the bench stores the eight bytes from 0x10200: 0x10208 is the first beyond, and neither is in
the RetIP word at 0x20FFA. -/
theorem witness_MemoryFrame : ∃ t, exec (.fstpM64real (.based 7 .none)) (bench [] []) = .next t ∧
    ¬ (bench [] []).RetIPByte 0x10208 ∧ ¬ (bench [] []).StoresAt (.fstpM64real (.based 7 .none)) 0x10208 ∧
    (bench [] []).StoresAt (.fstpM64real (.based 7 .none)) 0x10207 := by
  refine ⟨_, exec_rule _ _, ?_, ?_, 7, by decide, by decide +kernel⟩
  · rintro ⟨k, hk, h⟩
    revert h
    exact (by decide +kernel : ∀ k : Fin 2, (0x10208 : Nat) ≠
      linear (bench [] []).guest.ss ((bench [] []).guest.sp + BitVec.ofNat 16 k.val)) ⟨k, hk⟩
  · rintro ⟨k, hk, h⟩
    revert h
    exact (by decide +kernel : ∀ k : Fin 8, (0x10208 : Nat) ≠
      linear ((bench [] []).eaSeg (.based 7 .none)) ((bench [] []).eaOff (.based 7 .none) + BitVec.ofNat 16 k.val)) ⟨k, hk⟩

/-- Also of ExceptionBits, ControlWordInert and TagInvariant: FLD1 is none of the instructions they except, and the
tags of the reset block are derived. -/
theorem witness_GuestFrame : (∃ t, exec .fld1 (bench [] []) = .next t) ∧
    (∀ m, Instr.fld1.selected ≠ .fldenvM14 m) ∧ Instr.fld1.selected ≠ .fclex ∧ Instr.fld1.selected ≠ .finit ∧
    (∀ m, Instr.fld1.selected ≠ .fstcwM16 m) ∧ (∀ m, Instr.fld1.selected ≠ .fstenvM14 m) ∧
    (bench [] []).block.TagsDerived ∧ (7 < 8 ∧ (15 : Nat) = 15) := by
  refine ⟨⟨_, exec_rule _ _⟩, nofun, nofun, nofun, nofun, nofun, ?_, by decide⟩
  exact (by decide +kernel : ∀ p, (bench [] []).block.tag p = .empty ∨
    (bench [] []).block.tag p = tagOf ((bench [] []).block.reg p))

theorem witness_LittleEndianAccess : (10 : Nat) ≤ 65536 ∧ (9 : Nat) < 10 ∧ ¬ Touches 0x1000 0x0200 10 0 := by
  refine ⟨by decide, by decide, ?_⟩
  rintro ⟨k, hk, h⟩
  revert h
  exact (by decide +kernel : ∀ k : Fin 10, 0 ≠ linear 0x1000 (0x0200 + BitVec.ofNat 16 k.val)) ⟨k, hk⟩

/-- FSTENV [BX] at the bench, whose 14 bytes at 0x10200 spare the RetIP word, and FLDENV right after it. -/
theorem witness_EnvironmentRoundTrip : ∃ t, exec (.fstenvM14 (.based 7 .none)) (bench [] []) = .next t ∧
    (∀ a, (bench [] []).RetIPByte a →
      ¬ Touches ((bench [] []).eaSeg (.based 7 .none)) ((bench [] []).eaOff (.based 7 .none)) 14 a) ∧
    t.eaSeg (.based 7 .none) = (bench [] []).eaSeg (.based 7 .none) ∧
    t.eaOff (.based 7 .none) = (bench [] []).eaOff (.based 7 .none) := by
  refine ⟨_, exec_rule _ _, ?_, by decide +kernel, by decide +kernel⟩
  rintro a ⟨j, hj, rfl⟩ ⟨k, hk, h⟩
  revert h
  exact (by decide +kernel : ∀ (j : Fin 2) (k : Fin 14),
    linear (bench [] []).guest.ss ((bench [] []).guest.sp + BitVec.ofNat 16 j.val) ≠
      linear ((bench [] []).eaSeg (.based 7 .none)) ((bench [] []).eaOff (.based 7 .none) + BitVec.ofNat 16 k.val))
    ⟨j, hj⟩ ⟨k, hk⟩

/-- A register descriptor and a memory descriptor. -/
theorem witness_DescriptorFields : (0xE8 : Byte).extractLsb' 6 2 = 3#2 ∧ (0x06 : Byte).extractLsb' 6 2 ≠ 3#2 := by
  decide

/-- The tables of the per-instruction obligations: each is met by its first row, whatever the operand and state. -/
theorem witness_tables (m : MemOperand) (j : BitVec 3) (s : State) :
    (Obligations.MemoryAddMul → ∃ t, exec (.faddM32real m) s = .next t) ∧
    (Obligations.MemorySub → ∃ t, exec (.fsubM32real m) s = .next t) ∧
    (Obligations.MemoryDiv → ∃ t, exec (.fdivM32real m) s = .next t) ∧
    (Obligations.MemoryCompare → ∃ t, exec (.fcomM32real m) s = .next t) ∧
    (Obligations.RegisterArith → ∃ t, exec (.faddStiSt j) s = .next t) ∧
    (Obligations.RegisterArithPop → ∃ t, exec (.faddpStiSt j) s = .next t) ∧
    (Obligations.Loads → ∃ t, exec (.fldM32real m) s = .next t) ∧
    (Obligations.FloatStores → ∃ t v, exec (.fstM32real m) s = .next t ∧ s.StoredAndPatched t m 4 v m.skip) ∧
    (Obligations.IntegerStores → ∃ t, exec (.fistM32int m) s = .next t) ∧
    (Obligations.DdRegisterForms → ∃ t, exec (.fstSti j) s = .next t) ∧
    (Obligations.Constants → ∃ t, exec .fld1 s = .next t) ∧
    (Obligations.LogProducts → ∃ t, exec .fyl2x s = .next t) ∧
    (Obligations.RootRoundScale → ∃ t, exec .fsqrt s = .next t) ∧
    (Obligations.StackControl → ∃ t, exec .fnop s = .next t) ∧
    (Obligations.ControlStores → ∃ t, exec (.fstenvM14 m) s = .next t) := by
  refine ⟨fun h => ?_, fun h => ?_, fun h => ?_, fun h => ?_, fun h => ?_, fun h => ?_, fun h => ?_, fun h => ?_,
    fun h => ?_, fun h => ?_, fun h => ?_, fun h => ?_, fun h => ?_, fun h => ?_, fun h => ?_⟩
  · exact (h m s _ _ _ _ (.head _)).2.imp fun _ h => h.1
  · exact (h m s _ _ _ _ (.head _)).2.imp fun _ h => h.1
  · exact (h m s _ _ _ _ (.head _)).2.imp fun _ h => h.1
  · exact (h m s _ _ _ _ (.head _)).2.imp fun _ h => h.1
  · exact (h j s _ _ _ (.head _)).2.imp fun _ h => h.1
  · exact (h j s _ _ _ (.head _)).2.imp fun _ h => h.1
  · exact (h m s _ _ _ _ (.head _)).2.imp fun _ h => h.1
  · obtain ⟨-, -, t, v, h1, -, h2, -⟩ := h m s _ _ _ _ _ _ (.head _)
    exact ⟨t, v, h1, h2⟩
  · exact (h m s _ _ _ _ _ _ (.head _)).2.2.imp fun _ h => h.1
  · exact (h j s _ _ _ (.head _)).2.imp fun _ h => h.1
  · exact (h.2 s _ _ _ (.head _)).2.imp fun _ h => h.1
  · exact (h s _ _ _ _ (.head _)).2.imp fun _ h => h.1
  · exact (h.2.2.2 s _ _ _ (.head _)).2.imp fun _ h => h.1
  · exact (h.1 s _ _ _ _ _ (.head _)).2.imp fun _ h => h.1
  · exact (h m s _ _ _ _ _ (.head _)).2.2.imp fun _ h => h.1

/-- FXTRACT of 12.0 and of -0.0 (TR-34, TR-36), and of an infinity, which both clauses leave out (TR-38). -/
theorem witness_Fxtract :
    F64.isNaN 0x4028000000000000 = false ∧ F64.isInf 0x4028000000000000 = false ∧
    F64.isZero 0x4028000000000000 = false ∧ F64.isZero 0x8000000000000000 = true ∧
    F64.logb 0x4028000000000000 = 0x4008000000000000 ∧ F64.signif 0x4028000000000000 = 0x3FF8000000000000 ∧
    F64.isInf (F64.inf true) = true := by decide +kernel

/-- The bounds of the exponent at the ends of its range: 2^-1074 has logb -1074 and signif 1.0 (spec R138, R298), and
the largest number has logb 1023. -/
theorem witness_Fxtract_logb : 2 ^ 0 ≤ F64.units 1 ∧ F64.units 1 < 2 ^ (0 + 1) ∧
    F64.logb 1 = 0xC090C80000000000 ∧ F64.signif 1 = 0x3FF0000000000000 ∧
    2 ^ 2097 ≤ F64.units 0xFFEFFFFFFFFFFFFF ∧ F64.units 0xFFEFFFFFFFFFFFFF < 2 ^ (2097 + 1) ∧
    F64.logb 0xFFEFFFFFFFFFFFFF = 0x408FF80000000000 ∧ F64.signif 0xFFEFFFFFFFFFFFFF = 0xBFFFFFFFFFFFFFFF := by
  decide +kernel

/-- The rounding clauses: -0.4 gives -0.0, 0.5 and 2.5 are ties and go to +0.0 and 2.0, -3.5 to -4.0 (spec R135). -/
theorem witness_RootRoundScale_rint :
    F64.rint 0xBFD999999999999A = some (F64.zero true) ∧ F64.rint 0x3FE0000000000000 = some 0 ∧
    F64.rint 0x4004000000000000 = some 0x4000000000000000 ∧ F64.rint 0xC00C000000000000 = some 0xC010000000000000 ∧
    F64.rint (F64.inf true) = some (F64.inf true) ∧ F64.rint 0x7FF8000000000000 = none ∧
    2 * (F64.value 0x3FE0000000000000 - 0).natAbs = F64.one := by decide +kernel

/-- Every line of the table of `scaleFn`, each at an operand of its own (spec R137): 3.0 by 2.9 is 12.0, 2^-1074 by -1.0
is a tie and goes to +0.0, and by 2100.0 it is infinite. -/
theorem witness_RootRoundScale_scale :
    F64.scale .reference 0x7FF8000000000000 0 = none ∧
    F64.scale .reference (F64.zero true) (F64.inf false) = none ∧
    F64.scale .reference 0xC000000000000000 (F64.inf false) = some (F64.inf true) ∧
    F64.scale .reference (F64.inf true) (F64.inf true) = none ∧
    F64.scale .reference 0xC000000000000000 (F64.inf true) = some (F64.zero true) ∧
    F64.scale .reference (F64.zero true) 0x4007333333333333 = some (F64.zero true) ∧
    F64.scale .reference (F64.inf true) 0xC000000000000000 = some (F64.inf true) ∧
    (2 * F64.one ≤ F64.units 0x4007333333333333 ∧ F64.units 0x4007333333333333 < (2 + 1) * F64.one) ∧
    F64.scale .reference 0x4008000000000000 0x4007333333333333 = some 0x4028000000000000 ∧
    F64.scale .reference 1 0xBFF0000000000000 = some 0 ∧
    F64.scale .reference 1 0x40A0680000000000 = some (F64.inf false) := by decide +kernel

/-- 2^53 + 1 lies midway between two values and goes to the even one; 2^1024 - 2^970 is the first to overflow, and the
number before it in units of 2^-1074 does not. -/
theorem witness_RoundNearest : 0 < 1 ∧ F64.round false ((2 ^ 53 + 1) * F64.one) 1 = 0x4340000000000000 ∧
    F64.isInf (F64.round false ((2 ^ 54 - 1) * 2 ^ 2044) 1) = true ∧
    F64.isInf (F64.round false ((2 ^ 54 - 1) * 2 ^ 2044 - 1) 1) = false := by decide +kernel

/-- 5.0, -0.0, +inf and a NaN meet the hypotheses of the clauses of ArithmeticSpecials, and 1.0 - 1.0 is a zero sum
(ARM-3, ARM-13, ARM-15). -/
theorem witness_ArithmeticSpecials :
    F64.isNaN 0x4014000000000000 = false ∧ F64.isInf 0x4014000000000000 = false ∧
    F64.isZero 0x4014000000000000 = false ∧ F64.isZero (F64.zero true) = true ∧ F64.isInf (F64.inf false) = true ∧
    F64.mul (F64.zero true) 0x4014000000000000 = some (F64.zero true) ∧
    F64.div 0x4014000000000000 (F64.zero true) = some (F64.inf true) ∧
    F64.add 0x3FF0000000000000 0xBFF0000000000000 = some 0 := by decide +kernel

/-- The zero results of sums and differences (spec R238) and the results of an infinite operand (spec R130), one for each
clause; 1.0 + 2^-53 is a tie and goes to 1.0. -/
theorem witness_ArithmeticSpecials_results :
    F64.sub (F64.zero true) (F64.zero false) = some (F64.zero true) ∧
    F64.sub (F64.zero true) (F64.zero true) = some (F64.zero false) ∧
    F64.add (F64.zero true) (F64.zero true) = some (F64.zero true) ∧
    F64.add 0x3FF0000000000000 0x3CA0000000000000 = some 0x3FF0000000000000 ∧
    F64.add (F64.inf true) (F64.inf true) = some (F64.inf true) ∧
    F64.sub (F64.inf true) (F64.inf false) = some (F64.inf true) ∧
    F64.div (F64.inf false) (F64.zero true) = some (F64.inf true) ∧
    F64.add 0x3FF0000000000000 (F64.inf true) = some (F64.inf true) ∧
    F64.sub 0x3FF0000000000000 (F64.inf true) = some (F64.inf false) ∧
    F64.mul (F64.inf true) 0xBFF0000000000000 = some (F64.inf false) ∧
    F64.mul (F64.inf true) (F64.inf false) = some (F64.inf true) ∧
    F64.div 0x3FF0000000000000 0x4008000000000000 = some 0x3FD5555555555555 := by decide +kernel

/-- TR-39, TR-42 and TR-43: 7.0, -4.0 and 3.0 by 2.0, 2.0 and +inf. -/
theorem witness_RemainderExact :
    F64.isNaN 0x401C000000000000 = false ∧ F64.isInf 0x401C000000000000 = false ∧
    F64.isZero 0x4000000000000000 = false ∧ F64.isInf (F64.inf false) = true ∧
    F64.rem 0x401C000000000000 0x4000000000000000 = some 0xBFF0000000000000 ∧
    F64.rem 0xC010000000000000 0x4000000000000000 = some (F64.zero true) ∧
    F64.rem 0x4008000000000000 (F64.inf false) = some 0x4008000000000000 := by decide +kernel

/-- The smallest subnormal and -0.0 through the formats, under the default encoding of subnormals. -/
theorem witness_CodecRoundTrips : F64.isNaN 1 = false ∧ Params.default.f80SubnormalEnc = .normalized ∧
    extendedToDouble .reference (doubleToExtended Params.default 1) = some 1 ∧
    singleToDouble 0x80000000 = some (F64.zero true) ∧ singleToDouble 1 = some 0x36A0000000000000 := by decide +kernel

/-- The cases of the 80-bit read: both infinities of E = 0x7FFF (spec/90_conflicts.md C3), a NaN, a zero; 2^-1022, the
first number past the edge band, and an E of 17469 with M = 0, the last before it, are read alike under both decodes;
the number before 2^-1022 is in the band. -/
theorem witness_CodecRoundTrips_read :
    extendedToDouble .unknown 0 = some 0 ∧
    extendedToDouble .unknown (packExtended true 0x7FFF 0) = some (F64.inf true) ∧
    extendedToDouble .unknown (packExtended false 0x7FFF (2 ^ 63)) = some (F64.inf false) ∧
    extendedToDouble .unknown (packExtended false 0x7FFF 1) = none ∧
    extendedToDouble .unknown (packExtended false 15372 (2 ^ 52)) = some 0x0010000000000000 ∧
    ¬ ((2 ^ 52 : Nat) * 2 ^ 15372 < 2 ^ 52 * 2 ^ 15372) ∧ ((2 ^ 52 - 1) * 2 ^ 15372 < 2 ^ 52 * 2 ^ 15372) ∧
    extendedToDouble .unknown (packExtended true 17469 0) = some (F64.zero true) ∧
    extendedToDouble .reference (packExtended true 17470 0) = some (F64.zero true) ∧
    extendedToDouble .reference (packExtended false 15372 (2 ^ 52 - 1)) = some 0x000FFFFFFFFFFFFF := by decide +kernel

/-- The 80-bit patterns: 1.0, -inf, -0.0, a NaN, the largest and the smallest subnormal normalized, and 3 * 2^-1074
literal, which reads back as 2^-1073 (spec R148, R149). -/
theorem witness_CodecRoundTrips_write :
    doubleToExtended Params.default 0x3FF0000000000000 = 0x3FFF8000000000000000 ∧
    doubleToExtended Params.default (F64.inf true) = 0xFFFF8000000000000000 ∧
    doubleToExtended Params.default (F64.zero true) = 0x80000000000000000000 ∧
    doubleToExtended Params.default 0x7FF8000000000000 = 0x7FFFC000000000000000 ∧
    doubleToExtended Params.default 1 = 0x3BCD8000000000000000 ∧
    doubleToExtended Params.default 0x000FFFFFFFFFFFFF = 0x3C00FFFFFFFFFFFFF000 ∧
    (2 ^ 51 ≤ F64.frac 0x000FFFFFFFFFFFFF ∧ F64.frac 0x000FFFFFFFFFFFFF < 2 ^ (51 + 1)) ∧
    doubleToExtended { Params.default with f80SubnormalEnc := .literal } 3 = 0x3C000000000000001800 ∧
    extendedToDouble .reference 0x3C000000000000001800 = some 2 ∧ F64.isSubnormal 3 = true := by decide +kernel

/-- 2.5 is a tie and goes to 2; 2^63 is the first value past the range and -2^63 is in it (COD-7). -/
theorem witness_IntegerConversion : F64.isNaN 0x4004000000000000 = false ∧ F64.isInf 0x4004000000000000 = false ∧
    F64.toInt 0x4004000000000000 = 2 ∧ doubleToInt 64 0x8000000000000000 0x43E0000000000000 = 0x8000000000000000 ∧
    doubleToInt 16 0x8000 0x43E0000000000000 = 0x8000 ∧ doubleToInt 16 0x8000 0xC3E0000000000000 = 0 ∧
    (2 ^ 53 : Int).natAbs ≤ 2 ^ 53 := by decide +kernel

/-- The bits of an operand, byte by byte over a finite range. -/
theorem operandBits_of_bytes {w n : Nat} (s : State) (m : MemOperand) (b : BitVec w) (hw : w = 8 * n)
    (h : ∀ k : Fin n, b.extractLsb' (8 * k.val) 8 = s.read8 (s.eaSeg m) (s.eaOff m + BitVec.ofNat 16 k.val)) :
    s.OperandBits m b := fun k hk => h ⟨k, by omega⟩

/-- The reads at the bench: FE FF is -2, 00 00 00 80 is -2^31, 2^53 + 1 is a tie and goes to 2^53, zero is +0.0 (spec
R150). -/
theorem witness_IntegerConversion_reads :
    (bench [] [0xFE, 0xFF]).OperandBits (.based 7 .none) (0xFFFE : BitVec 16) ∧ (0xFFFE : BitVec 16).toInt = -2 ∧
    (bench [] [0xFE, 0xFF]).readInt16 (.based 7 .none) = some 0xC000000000000000 ∧
    (bench [] [0, 0, 0, 0x80]).OperandBits (.based 7 .none) (0x80000000 : BitVec 32) ∧
    (bench [] [0, 0, 0, 0x80]).readInt32 (.based 7 .none) = some 0xC1E0000000000000 ∧
    (bench [] [1, 0, 0, 0, 0, 0, 0x20, 0]).OperandBits (.based 7 .none) (0x0020000000000001 : BitVec 64) ∧
    (bench [] [1, 0, 0, 0, 0, 0, 0x20, 0]).readInt64 (.based 7 .none) = some 0x4340000000000000 ∧
    (bench [] []).OperandBits (.based 7 .none) (0 : BitVec 64) ∧
    (bench [] []).readInt64 (.based 7 .none) = some 0 :=
  ⟨operandBits_of_bytes (n := 2) _ _ _ rfl (by decide +kernel), by decide, by decide +kernel,
    operandBits_of_bytes (n := 4) _ _ _ rfl (by decide +kernel), by decide +kernel,
    operandBits_of_bytes (n := 8) _ _ _ rfl (by decide +kernel), by decide +kernel,
    operandBits_of_bytes (n := 8) _ _ _ rfl (by decide +kernel), by decide +kernel⟩

/-- The floating reads at the bench: 1.0 in each width, the smallest binary32 subnormal, and a NaN in each width. -/
theorem witness_CodecRoundTrips_operands :
    (bench [] [0, 0, 0x80, 0x3F]).OperandBits (.based 7 .none) (0x3F800000 : Single) ∧
    (bench [] [0, 0, 0x80, 0x3F]).readFloat32 (.based 7 .none) = some 0x3FF0000000000000 ∧
    (bench [] [0, 0, 0, 0, 0, 0, 0xF0, 0x3F]).OperandBits (.based 7 .none) (0x3FF0000000000000 : Double) ∧
    (bench [] [0, 0, 0, 0, 0, 0, 0xF0, 0x3F]).readFloat64 (.based 7 .none) = some 0x3FF0000000000000 ∧
    (bench [] [0, 0, 0, 0, 0, 0, 0, 0x80, 0xFF, 0x3F]).OperandBits (.based 7 .none)
      (0x3FFF8000000000000000 : Extended) ∧
    (bench [] [0, 0, 0, 0, 0, 0, 0, 0x80, 0xFF, 0x3F]).readFloat80 (.based 7 .none) = some 0x3FF0000000000000 ∧
    singleToDouble 0xFF800001 = none ∧ singleToDouble 0xFF800000 = some (F64.inf true) ∧
    F64.units 0x36A0000000000000 = 1 * 2 ^ 925 ∧ doubleRead 0x7FF0000000000001 = none :=
  ⟨operandBits_of_bytes (n := 4) _ _ _ rfl (by decide +kernel), by decide +kernel,
    operandBits_of_bytes (n := 8) _ _ _ rfl (by decide +kernel), by decide +kernel,
    operandBits_of_bytes (n := 10) _ _ _ rfl (by decide +kernel), by decide +kernel, by decide +kernel,
    by decide +kernel, by decide +kernel, by decide +kernel⟩

/-- 4.0, -0.0, +inf and -1.0 meet the hypotheses of the clauses of SqrtNearest (E9, TR-52, TR-53). -/
theorem witness_SqrtNearest : F64.isNaN 0x4010000000000000 = false ∧ F64.isInf 0x4010000000000000 = false ∧
    F64.sign 0x4010000000000000 = false ∧ F64.sqrt 0x4010000000000000 = some 0x4000000000000000 ∧
    F64.isZero (F64.zero true) = true ∧ F64.isInf (F64.inf false) = true ∧ F64.sign (F64.inf false) = false ∧
    F64.sign 0xBFF0000000000000 = true ∧ F64.isZero 0xBFF0000000000000 = false := by decide +kernel

/-- A NaN, a zero, an infinity, -5e-324 and -1.0 - 2^-52 meet the hypotheses of the clauses, and -1.0 is past none. -/
theorem witness_TranscendentalSpecials : F64.isNaN 0x7FF8000000000000 = true ∧ F64.isZero (F64.zero true) = true ∧
    F64.isInf (F64.inf true) = true ∧ F64.value 0x8000000000000001 < 0 ∧
    F64.value 0xBFF0000000000001 < -(F64.one : Int) ∧ ¬ F64.value 0xBFF0000000000000 < -(F64.one : Int) := by
  decide +kernel

/-- atan2 of zeros and infinities, one case for each clause: ±0 by +0 and -0 (spec R297), ±inf by each infinity and by
1.0, 1.0 by each infinity and by -0. -/
theorem witness_TranscendentalSpecials_atan2 :
    Tr.atan2 .reference (F64.zero true) (F64.zero false) = some (F64.zero true) ∧
    Tr.atan2 .reference (F64.zero true) (F64.zero true) = some 0xC00921FB54442D18 ∧
    Tr.atan2 .reference (F64.inf true) (F64.inf true) = some 0xC002D97C7F3321D2 ∧
    Tr.atan2 .reference (F64.inf false) (F64.inf false) = some 0x3FE921FB54442D18 ∧
    Tr.atan2 .reference (F64.inf true) 0x3FF0000000000000 = some 0xBFF921FB54442D18 ∧
    Tr.atan2 .reference 0x3FF0000000000000 (F64.inf true) = some 0x400921FB54442D18 ∧
    Tr.atan2 .reference 0xBFF0000000000000 (F64.inf false) = some (F64.zero true) ∧
    Tr.atan2 .reference 0x3FF0000000000000 (F64.zero true) = some 0x3FF921FB54442D18 := by decide +kernel

/-- atan2 just below a midpoint of subnormals: 3 * 2^-1074 by 2.0 is 2^-1074, and -2^-1074 by 2.0 is -0.0 (spec R139). -/
theorem test_atan2_subnormal_midpoint :
    Tr.atan2 .reference 3 0x4000000000000000 = some 1 ∧
    Tr.atan2 .reference 0x8000000000000001 0x4000000000000000 = some (F64.zero true) := by decide +kernel

/-- COD-2: 16777217.0 is a tie and goes to the even 16777216.0; 2^-150 is a tie and goes to zero, the number after it does
not; (2 - 2^-24) * 2^127 is the first to overflow. -/
theorem witness_SingleRounding : F64.isNaN 0x4170000010000000 = false ∧ F64.isInf 0x4170000010000000 = false ∧
    doubleToSingle 0x4170000010000000 = 0x4B800000 ∧ doubleToSingle 0x3690000000000000 = 0 ∧
    doubleToSingle 0x3690000000000001 = 1 ∧ doubleToSingle 0x47EFFFFFEFFFFFFF = 0x7F7FFFFF ∧
    doubleToSingle 0x47EFFFFFF0000000 = 0x7F800000 := by decide +kernel

end Sys2Proof.Tests
end

section
/-! PROOFS. Rounding to nearest, ties to even (spec R13, R130, R142): what `rne` and `roundMag` give, for a format of
any number of fraction bits, and the binary64 patterns they are packed into. -/

namespace Sys2Proof.Machine

/-! ### Rounding to an integer -/

/-- How far j lies from n / d, in units of 1 / d. -/
def offBy (n d j : Nat) : Nat := ((j * d : Nat) - (n : Int)).natAbs

theorem offBy_mul_right (n d k j : Nat) : offBy n (d * k) j = offBy n d (j * k) := by
  simp only [offBy, Nat.mul_left_comm, Nat.mul_comm]

/-- `rne` lies within half a unit of n / d, and is even when it lies half a unit off. -/
theorem rne_within_half (n : Nat) {d : Nat} (hd : 0 < d) :
    2 * offBy n d (rne n d) ≤ d ∧ (2 * offBy n d (rne n d) = d → rne n d % 2 = 0) := by
  have hn : n / d * d + n % d = n := Nat.div_add_mod' n d
  have hr : n % d < d := Nat.mod_lt n hd
  unfold rne offBy
  split
  · have : (n / d + 1) * d = n / d * d + d := Nat.succ_mul _ _
    omega
  · omega

/-- Distinct integers are at least one unit apart. -/
theorem le_offBy_add_offBy (n d : Nat) {i j : Nat} (h : i ≠ j) : d ≤ offBy n d i + offBy n d j := by
  unfold offBy
  obtain hlt | hlt := Nat.lt_or_gt_of_ne h <;>
  · have := Nat.mul_le_mul_right d hlt
    rw [Nat.succ_mul] at this
    omega

/-- No integer lies nearer n / d than `rne`, and of two that lie as near `rne` is the even one. -/
theorem rne_nearest (n : Nat) {d : Nat} (hd : 0 < d) (j : Nat) :
    offBy n d (rne n d) ≤ offBy n d j ∧
      (offBy n d (rne n d) = offBy n d j → j ≠ rne n d → rne n d % 2 = 0) := by
  obtain ⟨hhalf, heven⟩ := rne_within_half n hd
  by_cases hj : j = rne n d
  · simp [hj]
  · have := le_offBy_add_offBy n d hj
    exact ⟨by omega, fun heq _ => heven (by omega)⟩

theorem rne_le {n d m : Nat} (hd : 0 < d) (h : n ≤ m * d) : rne n d ≤ m := by
  have hhalf := (rne_within_half n hd).1
  by_contra hlt
  have := Nat.mul_le_mul_right d (Nat.lt_of_not_le hlt)
  rw [Nat.succ_mul] at this
  unfold offBy at hhalf
  omega

/-- An even integer is reached from half a unit below it on. -/
theorem even_le_rne_iff {n d m : Nat} (hd : 0 < d) (hm : m % 2 = 0) : m ≤ rne n d ↔ 2 * (m * d) ≤ 2 * n + d := by
  obtain ⟨hhalf, heven⟩ := rne_within_half n hd
  unfold offBy at hhalf heven
  constructor
  · intro h
    have := Nat.mul_le_mul_right d h
    omega
  · intro h
    by_contra hlt
    have hstep := Nat.mul_le_mul_right d (Nat.lt_of_not_le hlt)
    rw [Nat.succ_mul] at hstep
    have hpar : rne n d % 2 = 0 := heven (by omega)
    have hstep2 := Nat.mul_le_mul_right d (show rne n d + 2 ≤ m by omega)
    rw [Nat.add_mul] at hstep2
    omega

theorem le_rne_of_even {n d m : Nat} (hd : 0 < d) (hm : m % 2 = 0) (h : m * d ≤ n) : m ≤ rne n d :=
  (even_le_rne_iff hd hm).2 (by omega)

/-! ### The magnitude a pattern stands for -/

/-- The magnitude, in units of the smallest subnormal, of the low bits `mag` of a pattern with p fraction bits. -/
def magUnits (p mag : Nat) : Nat :=
  if mag / 2 ^ p = 0 then mag % 2 ^ p else (2 ^ p + mag % 2 ^ p) * 2 ^ (mag / 2 ^ p - 1)

/-- Patterns count on across a binade: m steps of 2^k above the pattern of exponent k stand for m * 2^k. -/
theorem magUnits_add {p k m : Nat} (hm : m ≤ 2 ^ (p + 1)) (hk : k ≠ 0 → 2 ^ p ≤ m) :
    magUnits p (k * 2 ^ p + m) = m * 2 ^ k := by
  have hp : 0 < 2 ^ p := Nat.two_pow_pos p
  have hdiv : (k * 2 ^ p + m) / 2 ^ p = k + m / 2 ^ p := by
    rw [Nat.add_comm, Nat.add_mul_div_right _ _ hp, Nat.add_comm]
  have hmod : (k * 2 ^ p + m) % 2 ^ p = m % 2 ^ p := Nat.mul_add_mod_self_right _ _ _
  rw [magUnits, hdiv, hmod]
  rw [Nat.pow_succ] at hm
  obtain hlt | hle := Nat.lt_or_ge m (2 ^ p)
  · have hk0 : k = 0 := by by_contra h; exact absurd (hk h) (by omega)
    simp [hk0, Nat.div_eq_of_lt hlt, Nat.mod_eq_of_lt hlt]
  · obtain hlt' | heq := Nat.lt_or_eq_of_le hm
    · have hq : m / 2 ^ p = 1 := Nat.div_eq_of_lt_le (by omega) (by omega)
      have hr : m % 2 ^ p = m - 2 ^ p := by rw [Nat.mod_eq_sub_mod hle, Nat.mod_eq_of_lt (by omega)]
      rw [hq, hr, if_neg (by omega), Nat.add_sub_cancel' hle, Nat.add_sub_cancel]
    · rw [heq, Nat.mul_div_cancel_left _ hp, Nat.mul_mod_right, if_neg (by omega)]
      rw [Nat.add_zero, show k + 2 - 1 = k + 1 by omega, Nat.pow_succ, Nat.mul_assoc, Nat.mul_comm 2]

/-- From 2^(p + k) on, every magnitude of the format is a multiple of 2^k. -/
theorem two_pow_dvd_magUnits_or_lt (p mag k : Nat) : 2 ^ k ∣ magUnits p mag ∨ magUnits p mag < 2 ^ (p + k) := by
  have hf : mag % 2 ^ p < 2 ^ p := Nat.mod_lt _ (Nat.two_pow_pos p)
  unfold magUnits
  split
  · exact .inr (hf.trans_le (Nat.pow_le_pow_right (by omega) (by omega)))
  · obtain hle | hlt := le_or_gt k (mag / 2 ^ p - 1)
    · exact .inl (Dvd.dvd.mul_left (Nat.pow_dvd_pow 2 hle) _)
    · refine .inr ?_
      calc (2 ^ p + mag % 2 ^ p) * 2 ^ (mag / 2 ^ p - 1)
          < 2 ^ (p + 1) * 2 ^ (mag / 2 ^ p - 1) :=
            Nat.mul_lt_mul_of_pos_right (by rw [Nat.pow_succ]; omega) (Nat.two_pow_pos _)
        _ = 2 ^ (p + 1 + (mag / 2 ^ p - 1)) := (Nat.pow_add ..).symm
        _ ≤ 2 ^ (p + k) := Nat.pow_le_pow_right (by omega) (by omega)

/-! ### Rounding to a format -/

theorem lt_two_pow_roundExp (p n : Nat) {d : Nat} (hd : 0 < d) : n < 2 ^ (p + 1) * (d * 2 ^ roundExp p n d) := by
  have hlog : n / d < 2 ^ (p + 1 + roundExp p n d) :=
    Nat.lt_log2_self.trans_le (Nat.pow_le_pow_right (by omega) (by unfold roundExp; omega))
  rw [Nat.div_lt_iff_lt_mul hd, Nat.pow_add] at hlog
  rwa [Nat.mul_comm d, ← Nat.mul_assoc]

theorem two_pow_roundExp_le {p n d : Nat} (h : roundExp p n d ≠ 0) : 2 ^ p * (d * 2 ^ roundExp p n d) ≤ n := by
  have hlog : Nat.log2 (n / d) ≠ 0 := by unfold roundExp at h; omega
  have hq : n / d ≠ 0 := by rintro hq; simp [hq] at hlog
  have hpow : 2 ^ p * 2 ^ roundExp p n d ≤ n / d := by
    rw [← Nat.pow_add, show p + roundExp p n d = Nat.log2 (n / d) by unfold roundExp at h ⊢; omega]
    exact Nat.log2_self_le hq
  calc 2 ^ p * (d * 2 ^ roundExp p n d) = 2 ^ p * 2 ^ roundExp p n d * d := by
        rw [Nat.mul_comm d, Nat.mul_assoc]
    _ ≤ n / d * d := Nat.mul_le_mul_right d hpow
    _ ≤ n := Nat.div_mul_le_self n d

/-- The rounded significand: n / d in rounding units. -/
def roundSig (p n d : Nat) : Nat := rne n (d * 2 ^ roundExp p n d)

theorem roundMag_eq_min (p infMag n d : Nat) :
    roundMag p infMag n d = min (roundExp p n d * 2 ^ p + roundSig p n d) infMag := rfl

theorem roundMag_le (p infMag n d : Nat) : roundMag p infMag n d ≤ infMag := Nat.min_le_right _ _

theorem roundSig_le (p n : Nat) {d : Nat} (hd : 0 < d) : roundSig p n d ≤ 2 ^ (p + 1) :=
  rne_le (Nat.mul_pos hd (Nat.two_pow_pos _)) (lt_two_pow_roundExp p n hd).le

theorem two_pow_mod_two {p : Nat} (hp : 0 < p) : 2 ^ p % 2 = 0 :=
  Nat.mod_eq_zero_of_dvd (dvd_pow_self 2 hp.ne')

theorem le_roundSig {p n d : Nat} (hp : 0 < p) (hd : 0 < d) (h : roundExp p n d ≠ 0) : 2 ^ p ≤ roundSig p n d :=
  le_rne_of_even (Nat.mul_pos hd (Nat.two_pow_pos _)) (two_pow_mod_two hp) (two_pow_roundExp_le h)

/-- A finite result stands for its significand times the rounding unit. -/
theorem magUnits_roundMag {p infMag n d : Nat} (hp : 0 < p) (hd : 0 < d) (hfin : roundMag p infMag n d < infMag) :
    magUnits p (roundMag p infMag n d) = roundSig p n d * 2 ^ roundExp p n d := by
  rw [roundMag_eq_min] at hfin ⊢
  rw [Nat.min_eq_left (by omega)]
  exact magUnits_add (roundSig_le p n hd) (le_roundSig hp hd)

/-- A finite result is even with its significand. -/
theorem roundMag_mod_two {p infMag n d : Nat} (hp : 0 < p) (hfin : roundMag p infMag n d < infMag) :
    roundMag p infMag n d % 2 = roundSig p n d % 2 := by
  rw [roundMag_eq_min] at hfin ⊢
  rw [Nat.min_eq_left (by omega), Nat.add_mod, Nat.mul_mod, two_pow_mod_two hp]
  simp

/-- No magnitude of the format lies nearer n / d than a finite result, and of two that lie as near the result has the
even pattern. -/
theorem roundMag_nearest {p infMag n d : Nat} (hp : 0 < p) (hd : 0 < d) (hfin : roundMag p infMag n d < infMag)
    (mag : Nat) :
    offBy n d (magUnits p (roundMag p infMag n d)) ≤ offBy n d (magUnits p mag) ∧
      (offBy n d (magUnits p (roundMag p infMag n d)) = offBy n d (magUnits p mag) →
        magUnits p mag ≠ magUnits p (roundMag p infMag n d) → roundMag p infMag n d % 2 = 0) := by
  have hnear := rne_nearest n (Nat.mul_pos hd (Nat.two_pow_pos (roundExp p n d)))
  rw [magUnits_roundMag hp hd hfin, roundMag_mod_two hp hfin, ← offBy_mul_right]
  by_cases hdvd : 2 ^ roundExp p n d ∣ magUnits p mag
  · obtain ⟨j, hj⟩ := hdvd
    rw [hj, Nat.mul_comm _ j, ← offBy_mul_right]
    obtain ⟨hle, htie⟩ := hnear j
    exact ⟨hle, fun heq hne => htie heq fun h => hne (h ▸ rfl)⟩
  · have hlt := (two_pow_dvd_magUnits_or_lt p mag (roundExp p n d)).resolve_left hdvd
    have hk : roundExp p n d ≠ 0 := by rintro h; simp [h] at hdvd
    have hbinade := two_pow_roundExp_le hk
    have hnearer : offBy n (d * 2 ^ roundExp p n d) (2 ^ p) < offBy n d (magUnits p mag) := by
      have hmul := Nat.mul_lt_mul_of_pos_right hlt hd
      rw [Nat.pow_add, Nat.mul_assoc, Nat.mul_comm (2 ^ roundExp p n d)] at hmul
      unfold offBy
      omega
    have hlt' := (hnear (2 ^ p)).1.trans_lt hnearer
    exact ⟨hlt'.le, fun heq => absurd heq hlt'.ne⟩

/-- A result is infinite exactly from half a unit above the largest finite magnitude on; c + 3 is the exponent of an
infinity. Only in the last finite binade, of rounding unit 2^(c + 1), does the significand decide, by its carry. -/
theorem roundMag_eq_infMag_iff {p c n d : Nat} (hp : 0 < p) (hd : 0 < d) :
    roundMag p ((c + 3) * 2 ^ p) n d = (c + 3) * 2 ^ p ↔ (2 ^ (p + 2) - 1) * 2 ^ c * d ≤ n := by
  have hlt := lt_two_pow_roundExp p n hd
  have hsig := roundSig_le p n hd
  have hpow : 2 ^ (p + 1) = 2 * 2 ^ p := Nat.pow_succ'
  have hlimit : (2 ^ (p + 2) - 1) * 2 ^ c * d = 4 * (2 ^ p * (d * 2 ^ c)) - d * 2 ^ c := by
    rw [Nat.pow_add, Nat.mul_assoc, Nat.mul_comm (2 ^ c), Nat.sub_mul, Nat.one_mul, Nat.mul_comm (2 ^ p),
      Nat.mul_assoc (2 ^ 2)]
  have hle : d * 2 ^ c ≤ 2 ^ p * (d * 2 ^ c) := Nat.le_mul_of_pos_left _ (Nat.two_pow_pos p)
  have hpos : 0 < d * 2 ^ c := Nat.mul_pos hd (Nat.two_pow_pos c)
  have hp' : 0 < 2 ^ p := Nat.two_pow_pos p
  rw [roundMag_eq_min, min_eq_right_iff, hlimit, Nat.add_mul]
  rw [hpow] at hsig
  rw [hpow, Nat.mul_assoc] at hlt
  obtain hk | hk | hk : roundExp p n d ≤ c ∨ roundExp p n d = c + 1 ∨ c + 2 ≤ roundExp p n d := by omega
  · have hexp := Nat.mul_le_mul_right (2 ^ p) hk
    have hunit := Nat.mul_le_mul_left (2 ^ p) (Nat.mul_le_mul_left d (Nat.pow_le_pow_right two_pos hk))
    omega
  · have hcarry : 2 ^ (p + 1) ≤ roundSig p n d ↔ _ :=
      even_le_rne_iff (Nat.mul_pos hd (Nat.two_pow_pos _)) (two_pow_mod_two (Nat.succ_pos p))
    have hunit : d * 2 ^ (c + 1) = 2 * (d * 2 ^ c) := by rw [Nat.pow_succ', Nat.mul_left_comm]
    rw [hk, hunit, hpow, Nat.mul_assoc, Nat.mul_left_comm (2 ^ p)] at hcarry
    rw [hk, Nat.add_mul]
    omega
  · have hn := two_pow_roundExp_le (p := p) (n := n) (d := d) (by omega)
    have hsig' := le_roundSig hp hd (n := n) (by omega)
    have hexp := Nat.mul_le_mul_right (2 ^ p) hk
    have hunit := Nat.mul_le_mul_left (2 ^ p) (Nat.mul_le_mul_left d (Nat.pow_le_pow_right two_pos hk))
    rw [Nat.pow_add, ← Nat.mul_assoc d, ← Nat.mul_assoc] at hunit
    rw [Nat.add_mul] at hexp
    omega

/-! ### Binary64 patterns -/

/-- The low 63 bits of a pattern: its exponent and fraction. -/
def F64.mag (x : Double) : Nat := x.toNat % 2 ^ 63

theorem F64.expo_eq (x : Double) : F64.expo x = F64.mag x / 2 ^ 52 := by
  simp only [F64.expo, F64.mag, BitVec.extractLsb'_toNat, Nat.shiftRight_eq_div_pow]
  omega

theorem F64.frac_eq (x : Double) : F64.frac x = F64.mag x % 2 ^ 52 := by
  simp only [F64.frac, F64.mag, BitVec.extractLsb'_toNat, Nat.shiftRight_zero]
  omega

theorem F64.units_eq (x : Double) : F64.units x = magUnits 52 (F64.mag x) := by
  rw [F64.units, F64.expo_eq, F64.frac_eq, magUnits]

theorem F64.isInf_iff (x : Double) : F64.isInf x = true ↔ F64.mag x = F64.infMag := by
  have : F64.mag x < 2 ^ 63 := Nat.mod_lt _ (by decide)
  simp only [F64.isInf, F64.expo_eq, F64.frac_eq, F64.infMag, Bool.and_eq_true, beq_iff_eq]
  omega

theorem F64.isNaN_iff (x : Double) : F64.isNaN x = true ↔ F64.infMag < F64.mag x := by
  have : F64.mag x < 2 ^ 63 := Nat.mod_lt _ (by decide)
  simp only [F64.isNaN, F64.expo_eq, F64.frac_eq, F64.infMag, Bool.and_eq_true, beq_iff_eq, bne_iff_ne]
  omega

theorem F64.toNat_pack (s : Bool) (mag : Nat) : (F64.pack s mag).toNat = s.toNat * 2 ^ 63 + mag % 2 ^ 63 := by
  have h : (F64.pack s mag).toNat = (BitVec.ofBool s).toNat <<< 63 ||| (BitVec.ofNat 63 mag).toNat :=
    BitVec.toNat_append ..
  rw [h, ← Nat.shiftLeft_add_eq_or_of_lt (BitVec.isLt _), Nat.shiftLeft_eq, BitVec.toNat_ofBool, BitVec.toNat_ofNat]

@[simp] theorem F64.sign_pack (s : Bool) (mag : Nat) : F64.sign (F64.pack s mag) = s := by
  have : mag % 2 ^ 63 < 2 ^ 63 := Nat.mod_lt _ (by decide)
  rw [F64.sign, BitVec.msb_eq_decide, F64.toNat_pack]
  cases s with
  | false => simp; omega
  | true => simp

theorem F64.mag_pack (s : Bool) {mag : Nat} (h : mag < 2 ^ 63) : F64.mag (F64.pack s mag) = mag := by
  rw [F64.mag, F64.toNat_pack]
  omega

theorem F64.getLsbD_zero_pack (s : Bool) (mag : Nat) : (F64.pack s mag).getLsbD 0 = decide (mag % 2 = 1) := by
  rw [BitVec.getLsbD, F64.toNat_pack, Nat.testBit_zero]
  congr 1
  rw [eq_iff_iff]
  omega

theorem F64.mag_round (s : Bool) (n d : Nat) : F64.mag (F64.round s n d) = roundMag 52 F64.infMag n d :=
  F64.mag_pack s ((roundMag_le ..).trans_lt (by decide))

/-- A rounded value is no NaN. -/
theorem F64.isNaN_round (s : Bool) (n d : Nat) : F64.isNaN (F64.round s n d) = false := by
  rw [Bool.eq_false_iff, Ne, F64.isNaN_iff, F64.mag_round]
  exact (roundMag_le ..).not_gt

theorem F64.isInf_round_iff (s : Bool) (n : Nat) {d : Nat} (hd : 0 < d) :
    F64.isInf (F64.round s n d) = true ↔ (2 ^ 54 - 1) * 2 ^ 2044 * d ≤ n := by
  rw [F64.isInf_iff, F64.mag_round]
  simpa only [Nat.reduceAdd, F64.infMag] using roundMag_eq_infMag_iff (p := 52) (c := 2044) (n := n) (by decide) hd

theorem F64.roundMag_lt_infMag {s : Bool} {n d : Nat} (h : F64.isInf (F64.round s n d) = false) :
    roundMag 52 F64.infMag n d < F64.infMag := by
  rw [Bool.eq_false_iff, Ne, F64.isInf_iff, F64.mag_round] at h
  exact (roundMag_le ..).lt_of_ne h

/-- Settles O53: `rne` is nearest in rounding units (`rne_nearest`), from the binade of n / d on the format has
multiples of that unit only (`roundMag_nearest`), and the result overflows where the significand of the last binade
carries (`roundMag_eq_infMag_iff`). -/
theorem roundNearest : Obligations.RoundNearest := by
  intro s n d hd
  refine ⟨F64.sign_pack .., F64.isNaN_round s n d, F64.isInf_round_iff s n hd, fun hfin y _ _ => ?_⟩
  have hnearest := roundMag_nearest (by decide) hd (F64.roundMag_lt_infMag hfin) (F64.mag y)
  rw [← F64.mag_round s, ← F64.units_eq, ← F64.units_eq, F64.mag_round] at hnearest
  obtain ⟨hnear, htie⟩ := hnearest
  refine ⟨hnear, fun heq hne => ?_⟩
  rw [F64.round, F64.getLsbD_zero_pack, decide_eq_false_iff_not, htie heq hne]
  exact Nat.zero_ne_one

end Sys2Proof.Machine
end

section
/-! PROOFS. The register stack, the tags and the compare (spec R23 to R37, R48): what each operation writes and that it
writes nothing else. -/

namespace Sys2Proof.Machine

/-! ### Reset -/

/-- Settles O18: the reset block is plain data, and its eight tags are all empty. -/
theorem resetState : Obligations.ResetState := by
  refine ⟨rfl, rfl, rfl, ?_, by decide, rfl⟩
  intro p
  simp [State.reset, Block.reset, Block.tag]

/-! ### Tags -/

theorem F64.isZero_iff (v : Double) : F64.isZero v = true ↔ v.extractLsb' 0 63 = 0#63 := by
  have hmag : F64.mag v = (v.extractLsb' 0 63).toNat := by
    simp [F64.mag, BitVec.extractLsb'_toNat]
  rw [← BitVec.toNat_inj, ← hmag, BitVec.toNat_zero, F64.isZero, F64.expo_eq, F64.frac_eq, Bool.and_eq_true,
    beq_iff_eq, beq_iff_eq]
  omega

/-- Exponent 0x7FF is that of the NaNs and the infinities, and of nothing else. -/
theorem F64.isNaN_or_isInf_iff (v : Double) :
    (F64.isNaN v || F64.isInf v) = true ↔ v.extractLsb' 52 11 = 0x7FF#11 := by
  rw [← BitVec.toNat_inj]
  change _ ↔ F64.expo v = 2047
  by_cases hf : F64.frac v = 0 <;> simp [F64.isNaN, F64.isInf, hf]

/-- Settles O24: the two classes of patterns `tagOf` tests for are the fields the rule names. -/
theorem tagOf_fields_and_codes : Obligations.TagOf := by
  refine ⟨fun v => ?_, rfl, rfl, rfl, rfl⟩
  simp only [tagOf, F64.isZero_iff, F64.isNaN_or_isInf_iff]

/-! ### The tag word -/

/-- Bit k of TW is bit k mod 2 of the code of slot k / 2 (spec R29). -/
theorem getLsbD_tagWord (t : Vector Tag 8) {k : Nat} (hk : k < 16) :
    (tagWord t).getLsbD k = (t[k / 2].code).getLsbD (k % 2) := by
  have hfield : ((tagWord t).extractLsb' (2 * (k / 2)) 2).getLsbD (k % 2) = _ :=
    congrArg (·.getLsbD (k % 2)) (tagWord_field t ⟨k / 2, by omega⟩)
  rw [BitVec.getLsbD_extractLsb', Nat.div_add_mod, decide_eq_true (Nat.mod_lt k two_pos), Bool.true_and] at hfield
  exact hfield

@[simp] theorem tagWord_tagsOfWord (w : Word) : tagWord (tagsOfWord w) = w := by
  apply BitVec.eq_of_getLsbD_eq
  intro k hk
  rw [getLsbD_tagWord _ hk, tagsOfWord, Vector.getElem_ofFn, Tag.code_ofCode, BitVec.getLsbD_extractLsb',
    Nat.div_add_mod, decide_eq_true (Nat.mod_lt k two_pos), Bool.true_and]

/-- Settles O27: composing is read field by field, and both ways round it is the code of a tag and back. -/
theorem tagWordView : Obligations.TagWordView :=
  ⟨tagWord_field, tagsOfWord_tagWord, tagWord_tagsOfWord⟩

/-! ### Compare -/

/-- The codes of a compare: each of C3, C2 and C0 tests for the unordered relation and at most one other. -/
theorem swCompare_relation (sw : Word) (x y : Double) :
    swCompare sw (F64.relation x y) = swSetC320 sw
      (F64.isNaN x || F64.isNaN y || decide (F64.value x = F64.value y)) (F64.isNaN x || F64.isNaN y)
      (F64.isNaN x || F64.isNaN y || decide (F64.value x < F64.value y)) := by
  by_cases hnan : (F64.isNaN x || F64.isNaN y) = true
  · simp only [F64.relation, hnan, if_true, swCompare, Bool.true_or]
  · simp only [F64.relation, hnan, Bool.false_or]
    obtain hlt | heq | hgt := lt_trichotomy (F64.value x) (F64.value y)
    · simp [swCompare, hlt, hlt.ne, hlt.not_gt]
    · simp [swCompare, heq]
    · simp [swCompare, hgt, hgt.ne', hgt.not_gt]

/-- Settles O26: a compare is a write of C3, C2 and C0 in SW (`swCompare_relation`) and of nothing else. -/
theorem compare : Obligations.Compare := by
  intro b x y k
  refine ⟨b.compare_regs x y, b.compare_tags x y, b.compare_cw x y, ?_⟩
  rw [Block.compare_sw, swCompare_relation, getLsbD_swSetC320]
  by_cases h8 : k = 8
  · simp [h8]
  · by_cases h10 : k = 10
    · simp [h10]
    · simp [h8, h10]

/-! ### The register stack -/

@[simp] theorem Block.reg_setST_phys (b : Block) (i : BitVec 3) (v : Double) :
    (b.setST i v).reg (b.phys i) = v := by rw [Block.reg_setST, if_pos rfl]

@[simp] theorem Block.tag_setST_phys (b : Block) (i : BitVec 3) (v : Double) :
    (b.setST i v).tag (b.phys i) = tagOf v := by rw [Block.tag_setST, if_pos rfl]

@[simp] theorem Block.tag_free_phys (b : Block) (i : BitVec 3) : (b.free i).tag (b.phys i) = .empty := by
  rw [Block.tag_free, if_pos rfl]

theorem Block.slotsKept_setST (b : Block) (i : BitVec 3) (v : Double) : b.SlotsKept (b.setST i v) [b.phys i] := by
  intro p hp
  rw [List.mem_singleton] at hp
  simp [Block.reg_setST, Block.tag_setST, hp]

theorem Block.slotsKept_push (b : Block) (v : Double) : b.SlotsKept (b.push v) [b.top - 1] := by
  intro p hp
  rw [List.mem_singleton] at hp
  rw [Block.reg_push, Block.tag_push, if_neg hp, if_neg hp]
  exact ⟨rfl, rfl⟩

theorem Block.slotsKept_pop (b : Block) : b.SlotsKept b.pop [b.top] := by
  intro p hp
  rw [List.mem_singleton] at hp
  simp [Block.tag_pop, hp]

theorem Block.slotsKept_free (b : Block) (i : BitVec 3) : b.SlotsKept (b.free i) [b.phys i] := by
  intro p hp
  rw [List.mem_singleton] at hp
  simp [Block.tag_free, hp]

theorem Block.slotsKept_withTop (b : Block) (t : BitVec 3) (but : List (BitVec 3)) :
    b.SlotsKept (b.withTop t) but := fun _ _ => ⟨rfl, rfl⟩

/-- Settles O25: the slot, the tag and the frame of each operation, and TOP as a field of SW. -/
theorem stackOperations : Obligations.StackOperations := by
  refine ⟨fun _ => rfl, fun sw t k => ⟨swTop_swWithTop sw t, fun hk => ?_⟩, fun _ _ => rfl, fun b i v => ?_,
    fun b v => ?_, fun b => ?_, fun b i => ?_, fun b => ?_⟩
  · rw [getLsbD_swWithTop, if_neg (by omega)]
  · exact ⟨b.reg_setST_phys i v, b.tag_setST_phys i v, b.slotsKept_setST i v,
      b.setST_sw i v, b.setST_cw i v⟩
  · refine ⟨b.top_push v, ?_, by rw [Block.tag_push, if_pos rfl], b.slotsKept_push v, b.sw_push v, b.cw_push v⟩
    rw [Block.getST, Block.phys_zero, Block.top_push, Block.reg_push, if_pos rfl]
  · exact ⟨b.top_pop, by rw [Block.tag_pop, if_pos rfl], b.reg_pop b.top, b.slotsKept_pop, b.sw_pop, b.cw_pop⟩
  · exact ⟨b.tag_free_phys i, b.reg_free i _, b.slotsKept_free i, b.free_sw i, b.free_cw i⟩
  · exact ⟨b.top_incSTP, b.top_decSTP, b.slotsKept_withTop _ _, b.slotsKept_withTop _ _, b.incSTP_sw, b.decSTP_sw,
      b.incSTP_cw, b.decSTP_cw⟩

end Sys2Proof.Machine
end

section
/-! PROOFS. What a rule writes outside the block (spec R42, R44, R63, R182, R357), and the invariant a step keeps. -/

namespace Sys2Proof.Machine

/-! ### Memory -/

/-- A rule that stores no data leaves memory as it is (spec R63). -/
theorem ruleOf_mem_of_ownWrite_none {i : Instr} (s : State) (h : i.ownWrite = none) : (ruleOf i s).mem = s.mem := by
  rw [ruleOf_eq]
  cases i with
  | fstM32real | fstpM32real | fistM32int | fistpM32int | fstM64real | fstpM64real | fistpM64int | fstpM80real
  | fistM16int | fistpM16int | fstcwM16 | fstswM16 | fstenvM14 => cases h
  | ffreeSti | fstSti | fstpSti => dsimp only; split <;> rfl
  | fxtract => dsimp only; split_ifs <;> rfl
  | _ => simp

/-- The store of a store-with-pop goes where it would have gone before the pop (spec R73). -/
theorem State.popped_store_mem (s : State) (m : MemOperand) (n v : Nat) :
    (s.popped.store m n v).mem = (s.store m n v).mem :=
  writeLE_mem_congr (s := s) (t := s.popped) rfl (s.eaSeg m) (s.eaOff m) n v

theorem State.writeFloat32_mem (s : State) (m : MemOperand) (x : Double) :
    ∃ v, (s.writeFloat32 m x).mem = (s.store m 4 v).mem := by
  obtain ⟨b, d, h, _⟩ := s.writeFloat32_spec m x
  exact ⟨b.toNat, by rw [h, drawn_mem]⟩

theorem State.writeFloat64_mem (s : State) (m : MemOperand) (x : Double) :
    ∃ v, (s.writeFloat64 m x).mem = (s.store m 8 v).mem := by
  obtain ⟨b, d, h, _⟩ := s.writeFloat64_spec m x
  exact ⟨b.toNat, by rw [h, drawn_mem]⟩

/-- A rule that stores data writes memory at its operand only (spec R63). -/
theorem ruleOf_mem_of_ownWrite {i : Instr} {m : MemOperand} {n : Nat} (s : State) (h : i.ownWrite = some (m, n)) :
    ∃ v, (ruleOf i s).mem = (s.store m n v).mem := by
  rw [ruleOf_eq]
  cases i with
  | fstM32real => cases h; exact s.writeFloat32_mem m _
  | fstM64real => cases h; exact s.writeFloat64_mem m _
  | fstpM32real =>
    cases h
    obtain ⟨v, hv⟩ := s.popped.writeFloat32_mem m s.st0
    exact ⟨v, hv.trans (s.popped_store_mem m 4 v)⟩
  | fstpM64real =>
    cases h
    obtain ⟨v, hv⟩ := s.popped.writeFloat64_mem m s.st0
    exact ⟨v, hv.trans (s.popped_store_mem m 8 v)⟩
  | fistM16int | fistM32int | fstcwM16 | fstswM16 => cases h; exact ⟨_, rfl⟩
  | fistpM16int | fistpM32int | fistpM64int | fstpM80real => cases h; exact ⟨_, s.popped_store_mem m _ _⟩
  | fstenvM14 => cases h; exact ⟨wordsValue s.block.environment, congrArg State.mem (s.storeWords_eq ..)⟩
  | _ => cases h

/-- Every rule keeps memory canonical. -/
theorem ruleOf_mem_wf (i : Instr) (s : State) (h : s.mem.wf = true) : (ruleOf i s).mem.wf = true := by
  cases hw : i.ownWrite with
  | none => rwa [ruleOf_mem_of_ownWrite_none s hw]
  | some w =>
    obtain ⟨v, hv⟩ := ruleOf_mem_of_ownWrite s hw
    rw [hv]
    exact s.writeLE_wf _ _ _ _ h

/-! ### Guest registers, parameters and the transaction mark -/

/-- Only FSTSW AX writes a guest register; no rule writes a parameter or the transaction mark (spec R42, R44, R357). -/
theorem ruleOf_outsideKept {i : Instr} (s : State) (h : i ≠ .fstswAx) : s.OutsideKept (ruleOf i s) := by
  rw [ruleOf_eq]
  cases i with
  | fstswAx => exact absurd rfl h
  | ffreeSti | fstSti | fstpSti => dsimp only; split <;> exact ⟨rfl, rfl, rfl⟩
  | fxtract => dsimp only; split_ifs <;> exact ⟨rfl, rfl, rfl⟩
  | _ => simp [State.OutsideKept]

theorem ruleOf_guest (i : Instr) (s : State) :
    (ruleOf i s).guest = { s.guest with ax := if i = .fstswAx then s.block.sw else s.guest.ax } := by
  by_cases h : i = .fstswAx
  · subst h; rfl
  · rw [(ruleOf_outsideKept s h).1, if_neg h]

theorem ruleOf_params (i : Instr) (s : State) : (ruleOf i s).params = s.params := by
  by_cases h : i = .fstswAx
  · subst h; rfl
  · exact (ruleOf_outsideKept s h).2.1

theorem ruleOf_inTransaction (i : Instr) (s : State) : (ruleOf i s).inTransaction = s.inTransaction := by
  by_cases h : i = .fstswAx
  · subst h; rfl
  · exact (ruleOf_outsideKept s h).2.2

/-! ### The state a rule is entered in: only SEGOVR changes it, and only the override (spec R176) -/

@[simp] theorem State.ruleEntry_block (s : State) (i : Instr) : (s.ruleEntry i).block = s.block := by cases i <;> rfl
@[simp] theorem State.ruleEntry_mem (s : State) (i : Instr) : (s.ruleEntry i).mem = s.mem := by cases i <;> rfl
@[simp] theorem State.ruleEntry_params (s : State) (i : Instr) : (s.ruleEntry i).params = s.params := by
  cases i <;> rfl
@[simp] theorem State.ruleEntry_inTransaction (s : State) (i : Instr) :
    (s.ruleEntry i).inTransaction = s.inTransaction := by cases i <;> rfl
@[simp] theorem State.ruleEntry_ax (s : State) (i : Instr) : (s.ruleEntry i).guest.ax = s.guest.ax := by
  cases i <;> rfl

/-! ### Transactions -/

/-- A transaction is the selected rule and the patch. -/
theorem eq_patch_of_exec {i : Instr} {s t : State} (h : exec i s = .next t) :
    t = (ruleOf i.selected (s.ruleEntry i)).patch i.skipTotal := by
  rw [exec_rule] at h
  exact (Host.Outcome.next.inj h).symm

/-- Settles O20: the rule writes AX alone and the patch writes memory alone. -/
theorem guestFrame : Obligations.GuestFrame := by
  intro i s t h
  obtain rfl := eq_patch_of_exec h
  simp [ruleOf_guest, ruleOf_params, ruleOf_inTransaction]

/-- A transaction keeps memory canonical. -/
theorem exec_mem_wf {i : Instr} {s t : State} (h : exec i s = .next t) (hw : s.mem.wf = true) : t.mem.wf = true := by
  obtain rfl := eq_patch_of_exec h
  exact State.patch_wf _ _ (ruleOf_mem_wf _ _ (by rwa [State.ruleEntry_mem]))

/-! ### Steps -/

theorem State.trapEntry_mem_wf (s : State) (h : s.mem.wf = true) : s.trapEntry.mem.wf = true :=
  writeLE_wf _ _ _ _ _ (writeLE_wf _ _ _ _ _ (writeLE_wf _ _ _ _ _ h))

@[simp] theorem State.trapEntry_params (s : State) : s.trapEntry.params = s.params := by
  simp [trapEntry, pushWord]

/-- A step that completes is a transaction on the state at trap entry, and the trap return (spec R170, R173). -/
theorem exists_exec_of_step {s t : State} (h : step s = .next t) :
    ∃ i u, exec i s.trapEntry = .next u ∧ t = u.trapReturn := by
  unfold step at h
  split at h
  · cases h
  · split at h
    · cases h
    · next v _ =>
      rw [State.runTrap, exec_rule] at h
      exact ⟨s.trapEntry.fetched v, _, exec_rule .., (Host.Outcome.next.inj h).symm⟩

/-- Settles O16: entry, transaction and return keep memory canonical, and the return ends the transaction and clears
the override whatever the state before it. -/
theorem stepKeepsInv : Obligations.StepKeepsInv := by
  rintro s t ⟨hwf, _, _⟩ h
  obtain ⟨i, u, hexec, rfl⟩ := exists_exec_of_step h
  refine ⟨⟨?_, u.trapReturn_inTransaction, rfl⟩, ?_⟩
  · rw [u.trapReturn_mem]
    exact exec_mem_wf hexec (s.trapEntry_mem_wf hwf)
  · obtain ⟨_, hparams, _⟩ := guestFrame i _ u hexec
    rw [u.trapReturn_params, hparams, s.trapEntry_params]

end Sys2Proof.Machine
end

section
/-! PROOFS. What a rule does to the block: register-stack operations and condition codes (spec R27, R30 to R41). -/

namespace Sys2Proof.Machine

/-- `c` is a block that register-stack operations and writes of the condition codes may leave of `b`: SW[7:0] and SW[15]
are kept, and each slot is marked empty, or written together with the tag of its value, or kept. -/
structure Block.ChangesTo (b c : Block) : Prop where
  exceptionBits : ∀ k, k < 8 ∨ k = 15 → c.sw.getLsbD k = b.sw.getLsbD k
  slots : ∀ p, c.tag p = .empty ∨ c.tag p = tagOf (c.reg p) ∨ (c.reg p = b.reg p ∧ c.tag p = b.tag p)

namespace Block.ChangesTo

theorem refl (b : Block) : b.ChangesTo b := ⟨fun _ _ => rfl, fun _ => .inr (.inr ⟨rfl, rfl⟩)⟩

theorem trans {b c d : Block} (hbc : b.ChangesTo c) (hcd : c.ChangesTo d) : b.ChangesTo d := by
  refine ⟨fun k hk => (hcd.exceptionBits k hk).trans (hbc.exceptionBits k hk), fun p => ?_⟩
  obtain hempty | hder | ⟨hreg, htag⟩ := hcd.slots p
  · exact .inl hempty
  · exact .inr (.inl hder)
  · rw [hreg, htag]
    exact hbc.slots p

/-- Each tag stays empty or that of its value (spec R41). -/
theorem tagsDerived {b c : Block} (h : b.ChangesTo c) (hb : b.TagsDerived) : c.TagsDerived := by
  intro p
  obtain hempty | hder | ⟨hreg, htag⟩ := h.slots p
  · exact .inl hempty
  · exact .inr hder
  · rw [hreg, htag]
    exact hb p

/-! ### Writes of SW and CW -/

theorem withSw (b : Block) {sw : Word} (h : ∀ k, k < 8 ∨ k = 15 → sw.getLsbD k = b.sw.getLsbD k) :
    b.ChangesTo { b with sw := sw } := ⟨h, (refl b).slots⟩

theorem withCw (b : Block) (cw : Word) : b.ChangesTo { b with cw := cw } := ⟨fun _ _ => rfl, (refl b).slots⟩

theorem withTop (b : Block) (t : BitVec 3) : b.ChangesTo (b.withTop t) :=
  withSw b fun k hk => by rw [getLsbD_swWithTop, if_neg (by omega)]

theorem compare (b : Block) (x y : Double) : b.ChangesTo (b.compare x y) :=
  withSw b fun k hk => by
    rw [swCompare_relation, getLsbD_swSetC320, if_neg (by omega), if_neg (by omega), if_neg (by omega)]

/-! ### Register-stack operations -/

theorem setST (b : Block) (i : BitVec 3) (v : Double) : b.ChangesTo (b.setST i v) := by
  refine ⟨fun _ _ => rfl, fun p => ?_⟩
  by_cases hp : p = b.phys i
  · exact .inr (.inl (by rw [hp, b.tag_setST_phys, b.reg_setST_phys]))
  · exact .inr (.inr (b.slotsKept_setST i v p (by simpa using hp)))

theorem free (b : Block) (i : BitVec 3) : b.ChangesTo (b.free i) := by
  refine ⟨fun _ _ => rfl, fun p => ?_⟩
  by_cases hp : p = b.phys i
  · exact .inl (by rw [hp, b.tag_free_phys])
  · exact .inr (.inr (b.slotsKept_free i p (by simpa using hp)))

theorem incSTP (b : Block) : b.ChangesTo b.incSTP := withTop b _

theorem decSTP (b : Block) : b.ChangesTo b.decSTP := withTop b _

theorem push (b : Block) (v : Double) : b.ChangesTo (b.push v) := (decSTP b).trans (setST _ 0 v)

theorem pop (b : Block) : b.ChangesTo b.pop := (free b 0).trans (incSTP _)

theorem setST_pop (b : Block) (i : BitVec 3) (v : Double) : b.ChangesTo (b.setST i v).pop := (setST b i v).trans (pop _)

theorem setST_push (b : Block) (i : BitVec 3) (v w : Double) : b.ChangesTo ((b.setST i v).push w) :=
  (setST b i v).trans (push _ w)

end Block.ChangesTo

/-! ### The shapes of the rules -/

theorem State.arithMem_changesTo (s : State) (r : Option Double) (f : Double → Double → Option Double) :
    s.block.ChangesTo (s.arithMem r f).block := by
  obtain ⟨v, h⟩ := s.arithMem_block r f
  exact h ▸ .setST ..

theorem State.arithReg_changesTo (s : State) (i : BitVec 3) (f : Double → Double → Option Double) :
    s.block.ChangesTo (s.arithReg i f).block := by
  obtain ⟨v, h⟩ := s.arithReg_block i f
  exact h ▸ .setST ..

theorem State.arithRegPop_changesTo (s : State) (i : BitVec 3) (f : Double → Double → Option Double) :
    s.block.ChangesTo (s.arithRegPop i f).block := by
  obtain ⟨v, h⟩ := s.arithRegPop_block i f
  exact h ▸ .setST_pop ..

theorem State.compareMem_changesTo (s : State) (r : Option Double) : s.block.ChangesTo (s.compareMem r).block := by
  rw [compareMem, onBlock_block, settled_block]
  exact .compare ..

theorem State.compareMemPop_changesTo (s : State) (r : Option Double) :
    s.block.ChangesTo (s.compareMemPop r).block := by
  rw [compareMemPop_block]
  exact (s.compareMem_changesTo r).trans (.pop _)

theorem State.loadPush_changesTo (s : State) (r : Option Double) : s.block.ChangesTo (s.loadPush r).block := by
  rw [loadPush_block]
  exact .push ..

theorem State.setResult_changesTo (s : State) (i : BitVec 3) (r : Option Double) :
    s.block.ChangesTo (s.setResult i r).block := by
  rw [setResult_block]
  exact .setST ..

theorem State.popTimesLog_changesTo (s : State) (log : Option Double) :
    s.block.ChangesTo (s.popTimesLog log).block := by
  obtain ⟨v, h⟩ := s.popTimesLog_block log
  exact h ▸ (Block.ChangesTo.pop _).trans (.setST ..)

/-- Every rule but those of FLDENV, FCLEX and FINIT. -/
theorem ruleOf_changesTo {i : Instr} (s : State) (hldenv : ∀ m, i ≠ .fldenvM14 m) (hclex : i ≠ .fclex)
    (hinit : i ≠ .finit) : s.block.ChangesTo (ruleOf i s).block := by
  rw [ruleOf_eq]
  cases i with
  | fldenvM14 m => exact absurd rfl (hldenv m)
  | fclex => exact absurd rfl hclex
  | finit => exact absurd rfl hinit
  | faddM32real | fmulM32real | fsubM32real | fsubrM32real | fdivM32real | fdivrM32real
  | fiaddM32int | fimulM32int | fisubM32int | fisubrM32int | fidivM32int | fidivrM32int
  | faddM64real | fmulM64real | fsubM64real | fsubrM64real | fdivM64real | fdivrM64real
  | fiaddM16int | fimulM16int | fisubM16int | fisubrM16int | fidivM16int | fidivrM16int =>
    exact s.arithMem_changesTo ..
  | fcomM32real | ficomM32int | fcomM64real | ficomM16int => exact s.compareMem_changesTo _
  | fcompM32real | ficompM32int | fcompM64real | ficompM16int => exact s.compareMemPop_changesTo _
  | faddStiSt | fmulStiSt | fsubrStiSt | fsubStiSt | fdivrStiSt | fdivStiSt => exact s.arithReg_changesTo ..
  | faddpStiSt | fmulpStiSt | fsubrpStiSt | fsubpStiSt | fdivrpStiSt | fdivpStiSt => exact s.arithRegPop_changesTo ..
  | fcompp => exact ((Block.ChangesTo.compare ..).trans (.pop _)).trans (.pop _)
  | fldM32real | fildM32int | fldM80real | fldM64real | fildM16int | fildM64int => exact s.loadPush_changesTo _
  | fstpM32real | fistpM32int | fstpM80real | fstpM64real | fistpM16int | fistpM64int =>
    simpa using Block.ChangesTo.pop s.block
  | fldSti | fld1 | fldl2t | fldl2e | fldpi | fldlg2 | fldln2 | fldz => exact .push ..
  | fxchSti => exact (Block.ChangesTo.setST ..).trans (.setST ..)
  | fstSti => dsimp only; split; exacts [.setST .., .refl _]
  | fstpSti => dsimp only; split; exacts [.setST_pop .., .refl _]
  | ffreeSti => dsimp only; split; exacts [.free .., .refl _]
  | fchs | fabs => exact .setST ..
  | ftst => exact .compare ..
  | fxam =>
    refine .withSw _ fun k hk => ?_
    rw [swFxam, swSetC1, getLsbD_swWithBit, getLsbD_swSetC320]
    simp [show k ≠ 9 by omega, show k ≠ 8 by omega, show k ≠ 10 by omega, show k ≠ 14 by omega]
  | f2xm1 | fsqrt | frndint | fscale => exact s.setResult_changesTo ..
  | fprem =>
    refine (s.setResult_changesTo ..).trans (.withSw _ fun k hk => ?_)
    rw [swSetC2, getLsbD_swWithBit, if_neg (by omega)]
  | fyl2x | fyl2xp1 => exact s.popTimesLog_changesTo _
  | fptan => exact (s.setResult_changesTo ..).trans (.push ..)
  | fpatan => exact (Block.ChangesTo.pop _).trans (State.setResult_changesTo (s.onBlock Block.pop) ..)
  | fxtract => dsimp only; split_ifs <;> exact .setST_push ..
  | fdecstp => exact .decSTP _
  | fincstp => exact .incSTP _
  | fldcwM16 => exact .withCw ..
  | _ => simpa using Block.ChangesTo.refl s.block

/-- Settles O21: every rule but those of FLDENV, FCLEX and FINIT keeps the exception bits, and the patch writes memory
alone. -/
theorem exceptionBits : Obligations.ExceptionBits := by
  intro i s t h hldenv hclex hinit k hk
  obtain rfl := eq_patch_of_exec h
  rw [State.patch_block, (ruleOf_changesTo _ hldenv hclex hinit).exceptionBits k hk, State.ruleEntry_block]

/-- FINIT leaves every tag empty (spec R330). -/
theorem tagsDerived_finit (s : State) : (ruleOf .finit s).block.TagsDerived := fun p =>
  .inl (by simp [ruleOf_eq, Block.tag, Block.reset])

/-- Settles O23: FCLEX touches no slot, FINIT empties them all, and every other rule but FLDENV's writes a slot with the
tag of its value. -/
theorem tagInvariant : Obligations.TagInvariant := by
  intro i s t h hldenv hder
  obtain rfl := eq_patch_of_exec h
  rw [State.patch_block]
  rw [← s.ruleEntry_block i] at hder
  by_cases hclex : i.selected = .fclex
  · rw [hclex]
    exact hder
  · by_cases hinit : i.selected = .finit
    · rw [hinit]
      exact tagsDerived_finit _
    · exact (ruleOf_changesTo _ hldenv hclex hinit).tagsDerived hder

end Sys2Proof.Machine
end

section
/-! PROOFS. Noninterference of the control word (spec R28, R351): with another CW every operation reads the same and
leaves the same state but for CW. -/

namespace Sys2Proof.Machine

/-- The state with another control word. -/
def State.withCw (s : State) (c : Word) : State := { s with block := { s.block with cw := c } }

section Noninterference

variable (s : State) (c : Word)

@[simp] theorem State.withCw_guest : (s.withCw c).guest = s.guest := (rfl)
@[simp] theorem State.withCw_params : (s.withCw c).params = s.params := (rfl)
@[simp] theorem State.withCw_getST (i : BitVec 3) : (s.withCw c).block.getST i = s.block.getST i := (rfl)
@[simp] theorem State.withCw_sw : (s.withCw c).block.sw = s.block.sw := (rfl)
@[simp] theorem State.withCw_settle (r : Option Double) : (s.withCw c).settle r = s.settle r := (rfl)
@[simp] theorem State.withCw_freeValue : (s.withCw c).freeValue = s.freeValue := (rfl)
@[simp] theorem State.withCw_st0 : (s.withCw c).st0 = s.st0 := (rfl)
theorem State.withCw_self : s.withCw s.block.cw = s := (rfl)

/-! ### Operands -/

@[simp] theorem State.withCw_read16 (seg off : Word) : (s.withCw c).read16 seg off = s.read16 seg off :=
  read16_congr fun _ _ => rfl
@[simp] theorem State.withCw_eaSeg (m : MemOperand) : (s.withCw c).eaSeg m = s.eaSeg m := (rfl)
@[simp] theorem State.withCw_eaOff (m : MemOperand) : (s.withCw c).eaOff m = s.eaOff m := (rfl)
@[simp] theorem State.withCw_load (m : MemOperand) (n : Nat) : (s.withCw c).load m n = s.load m n :=
  readLE_congr fun _ _ => rfl
@[simp] theorem State.withCw_readFloat32 (m : MemOperand) : (s.withCw c).readFloat32 m = s.readFloat32 m := by
  simp [readFloat32]
@[simp] theorem State.withCw_readFloat64 (m : MemOperand) : (s.withCw c).readFloat64 m = s.readFloat64 m := by
  simp [readFloat64]
@[simp] theorem State.withCw_readFloat80 (m : MemOperand) : (s.withCw c).readFloat80 m = s.readFloat80 m := by
  simp [readFloat80]
@[simp] theorem State.withCw_readInt16 (m : MemOperand) : (s.withCw c).readInt16 m = s.readInt16 m := by
  simp [readInt16]
@[simp] theorem State.withCw_readInt32 (m : MemOperand) : (s.withCw c).readInt32 m = s.readInt32 m := by
  simp [readInt32]
@[simp] theorem State.withCw_readInt64 (m : MemOperand) : (s.withCw c).readInt64 m = s.readInt64 m := by
  simp [readInt64]

/-! ### Writes to memory -/

theorem State.withCw_writeLE (seg off : Word) (n v : Nat) :
    (s.withCw c).writeLE seg off n v = (s.writeLE seg off n v).withCw c := by
  induction n generalizing s off v with
  | zero => rfl
  | succ n ih => exact ih (s.write8 seg off (BitVec.ofNat 8 v)) _ _

@[simp] theorem State.withCw_write16 (seg off w : Word) :
    (s.withCw c).write16 seg off w = (s.write16 seg off w).withCw c := s.withCw_writeLE ..
@[simp] theorem State.withCw_store (m : MemOperand) (n v : Nat) :
    (s.withCw c).store m n v = (s.store m n v).withCw c := s.withCw_writeLE ..
theorem State.withCw_patch (k : Nat) : (s.withCw c).patch k = (s.patch k).withCw c := by
  simp [patch, setRetIP, retIP]

@[simp] theorem State.withCw_drawn (n : Nat) : (s.withCw c).drawn n = (s.drawn n).withCw c := (rfl)
@[simp] theorem State.withCw_writeFloat32 (m : MemOperand) (x : Double) :
    (s.withCw c).writeFloat32 m x = (s.writeFloat32 m x).withCw c := by
  by_cases h : F64.isNaN x = true <;> simp [writeFloat32, h]
@[simp] theorem State.withCw_writeFloat64 (m : MemOperand) (x : Double) :
    (s.withCw c).writeFloat64 m x = (s.writeFloat64 m x).withCw c := by
  by_cases h : F64.isNaN x = true <;> simp [writeFloat64, h]
@[simp] theorem State.withCw_writeFloat80 (m : MemOperand) (x : Double) :
    (s.withCw c).writeFloat80 m x = (s.writeFloat80 m x).withCw c := by simp [writeFloat80]
@[simp] theorem State.withCw_writeInt16 (m : MemOperand) (x : Double) :
    (s.withCw c).writeInt16 m x = (s.writeInt16 m x).withCw c := by simp [writeInt16]
@[simp] theorem State.withCw_writeInt32 (m : MemOperand) (x : Double) :
    (s.withCw c).writeInt32 m x = (s.writeInt32 m x).withCw c := by simp [writeInt32]
@[simp] theorem State.withCw_writeInt64 (m : MemOperand) (x : Double) :
    (s.withCw c).writeInt64 m x = (s.writeInt64 m x).withCw c := by simp [writeInt64]

/-! ### Results and the shapes of the rules -/

@[simp] theorem State.withCw_settled (r : Option Double) : (s.withCw c).settled r = (s.settled r).withCw c := by
  cases r <;> rfl
@[simp] theorem State.withCw_setResult (i : BitVec 3) (r : Option Double) :
    (s.withCw c).setResult i r = (s.setResult i r).withCw c := by
  cases r <;> rfl
@[simp] theorem State.withCw_pushResult (r : Option Double) :
    (s.withCw c).pushResult r = (s.pushResult r).withCw c := by
  cases r <;> rfl
@[simp] theorem State.withCw_popped : (s.withCw c).popped = s.popped.withCw c := (rfl)
@[simp] theorem State.withCw_loadPush (r : Option Double) : (s.withCw c).loadPush r = (s.loadPush r).withCw c :=
  s.withCw_pushResult c r
@[simp] theorem State.withCw_arithMem (r : Option Double) (f : Double → Double → Option Double) :
    (s.withCw c).arithMem r f = (s.arithMem r f).withCw c := by simp [arithMem]
@[simp] theorem State.withCw_arithReg (i : BitVec 3) (f : Double → Double → Option Double) :
    (s.withCw c).arithReg i f = (s.arithReg i f).withCw c := by simp [arithReg]
@[simp] theorem State.withCw_arithRegPop (i : BitVec 3) (f : Double → Double → Option Double) :
    (s.withCw c).arithRegPop i f = (s.arithRegPop i f).withCw c := by
  rw [arithRegPop, withCw_arithReg]
  rfl
@[simp] theorem State.withCw_compareMem (r : Option Double) :
    (s.withCw c).compareMem r = (s.compareMem r).withCw c := by
  rw [compareMem, withCw_settled]
  rfl
@[simp] theorem State.withCw_compareMemPop (r : Option Double) :
    (s.withCw c).compareMemPop r = (s.compareMemPop r).withCw c := by
  rw [compareMemPop, withCw_compareMem]
  rfl
@[simp] theorem State.withCw_popTimesLog (log : Option Double) :
    (s.withCw c).popTimesLog log = (s.popTimesLog log).withCw c := by
  rw [popTimesLog, withCw_settled]
  exact withCw_setResult ((s.settled log).onBlock Block.pop) c 0 _

/-- A rule reads no CW but to store it: it keeps another CW, or overwrites it, and does the same otherwise. -/
theorem ruleOf_withCw {i : Instr} (hcw : ∀ m, i ≠ .fstcwM16 m) (henv : ∀ m, i ≠ .fstenvM14 m) :
    ruleOf i (s.withCw c) = (ruleOf i s).withCw c ∨ ruleOf i (s.withCw c) = ruleOf i s := by
  rw [ruleOf_eq, ruleOf_eq]
  cases i with
  | fstcwM16 m => exact absurd rfl (hcw m)
  | fstenvM14 m => exact absurd rfl (henv m)
  | fldcwM16 | fldenvM14 =>
    right
    simp only [State.withCw_eaSeg, State.withCw_eaOff, State.withCw_read16]
    rfl
  | finit => right; rfl
  | fldSti | fld1 | fldl2t | fldl2e | fldpi | fldlg2 | fldln2 | fldz | fxchSti | fchs | fabs | ftst | fxam | fcompp
  | fdecstp | fincstp | fclex | fstswAx => left; rfl
  | fstSti | fstpSti | ffreeSti => left; simp only [State.withCw_params]; split <;> rfl
  | fxtract => left; simp only [State.withCw_getST]; split_ifs <;> rfl
  | fptan | fprem =>
    left
    simp only [State.withCw_params, State.withCw_getST, State.withCw_setResult]
    rfl
  | fpatan => exact .inl (State.withCw_setResult (s.onBlock Block.pop) c 0 _)
  | _ => left; simp

theorem State.ruleEntry_withCw (i : Instr) : (s.withCw c).ruleEntry i = (s.ruleEntry i).withCw c := by
  cases i <;> rfl

end Noninterference

/-- Settles O22: the rule keeps the replaced CW or overwrites it (`ruleOf_withCw`), and the patch does not read it. -/
theorem controlWordInert : Obligations.ControlWordInert := by
  intro i s c hcw henv
  change ∃ t c', exec i s = .next t ∧ (c' = c ∨ c' = t.block.cw) ∧ exec i (s.withCw c) = .next (t.withCw c')
  simp only [exec_rule, State.ruleEntry_withCw]
  obtain h | h := ruleOf_withCw (s.ruleEntry i) c hcw henv
  · exact ⟨_, c, rfl, .inl rfl, by rw [h, State.withCw_patch]⟩
  · exact ⟨_, _, rfl, .inr rfl, by rw [h, State.withCw_self]⟩

end Sys2Proof.Machine
end

section
/-! PROOFS. Wide memory accesses (spec R64, R65, R69). -/

namespace Sys2Proof.Machine

/-- Settles O28: up to a whole segment the wrapped offsets are distinct, so no later byte of the write falls on an earlier
one; the laws of `writeLE` and `readLE` (Laws/Access.lean) say each part. -/
theorem littleEndianAccess : Obligations.LittleEndianAccess := by
  intro s seg off n v hn
  refine ⟨fun k hk => ?_, fun a ha => ?_, ?_⟩
  · exact s.writeLE_read_byte seg off v hn hk
  · exact s.writeLE_read_other seg off n v ha
  · exact s.readLE_writeLE seg off v hn

end Sys2Proof.Machine
end

section
/-! PROOFS. The trap sequences (spec R90 to R107): the fields of the descriptor byte, the opcode map read both ways, and
decoding against encoding. -/

namespace Sys2Proof

/-- The eight values of a 3-bit field, one by one. -/
theorem forall_bitVec3 {P : BitVec 3 → Prop} : (∀ x, P x) ↔ P 0 ∧ P 1 ∧ P 2 ∧ P 3 ∧ P 4 ∧ P 5 ∧ P 6 ∧ P 7 := by
  refine ⟨fun h => ⟨h 0, h 1, h 2, h 3, h 4, h 5, h 6, h 7⟩, fun ⟨h0, h1, h2, h3, h4, h5, h6, h7⟩ x => ?_⟩
  have hx : x = 0 ∨ x = 1 ∨ x = 2 ∨ x = 3 ∨ x = 4 ∨ x = 5 ∨ x = 6 ∨ x = 7 := by revert x; decide
  obtain rfl | rfl | rfl | rfl | rfl | rfl | rfl | rfl := hx <;> assumption

/-! ### The descriptor byte (spec R96) -/

@[simp] theorem modField_descriptorByte (mod : BitVec 2) (op rm : BitVec 3) :
    modField (descriptorByte mod op rm) = mod := by
  revert mod op rm; decide

@[simp] theorem opField_descriptorByte (mod : BitVec 2) (op rm : BitVec 3) :
    opField (descriptorByte mod op rm) = op := by
  revert mod op rm; decide

@[simp] theorem rmField_descriptorByte (mod : BitVec 2) (op rm : BitVec 3) :
    rmField (descriptorByte mod op rm) = rm := by
  revert mod op rm; decide

/-- The three fields make up the whole byte. -/
@[simp] theorem descriptorByte_fields (m : Byte) : descriptorByte (modField m) (opField m) (rmField m) = m := by
  revert m; decide +kernel

/-! ### The displacement word (spec R98, R100) -/

theorem toNat_dispWord (lo hi : Byte) : (dispWord lo hi).toNat = lo.toNat + 256 * hi.toNat := by
  have h : (dispWord lo hi).toNat = hi.toNat <<< 8 ||| lo.toNat := BitVec.toNat_append hi lo
  rw [h, ← Nat.shiftLeft_add_eq_or_of_lt lo.isLt, Nat.shiftLeft_eq]
  omega

theorem dispWord_eq_ofNat (lo hi : Byte) : dispWord lo hi = BitVec.ofNat 16 (lo.toNat + 256 * hi.toNat) := by
  rw [← toNat_dispWord, BitVec.ofNat_toNat, BitVec.setWidth_eq]

@[simp] theorem dispWord_bytes (d : Word) : dispWord (d.extractLsb' 0 8) (d.extractLsb' 8 8) = d :=
  BitVec.extractLsb'_append_extractLsb' (w := 8) (len := 8)

@[simp] theorem dispWord_low (lo hi : Byte) : (dispWord lo hi).extractLsb' 0 8 = lo :=
  BitVec.extractLsb'_append_eq_right

@[simp] theorem dispWord_high (lo hi : Byte) : (dispWord lo hi).extractLsb' 8 8 = hi :=
  BitVec.extractLsb'_append_eq_left

/-! ### The operand (spec R97 to R100) -/

/-- The five operand forms, with the fields that select them. -/
theorem decodeOperand_cases (m b1 b2 : Byte) :
    (modField m = 0#2 ∧ rmField m = 6#3 ∧ decodeOperand m b1 b2 = .mem (.direct (dispWord b1 b2))) ∨
    (modField m = 0#2 ∧ rmField m ≠ 6#3 ∧ decodeOperand m b1 b2 = .mem (.based (rmField m) .none)) ∨
    (modField m = 1#2 ∧ decodeOperand m b1 b2 = .mem (.based (rmField m) (.byte b1))) ∨
    (modField m = 2#2 ∧ decodeOperand m b1 b2 = .mem (.based (rmField m) (.word (dispWord b1 b2)))) ∨
    (modField m = 3#2 ∧ decodeOperand m b1 b2 = .reg (rmField m)) := by
  have hmod : ∀ x : BitVec 2, x = 0#2 ∨ x = 1#2 ∨ x = 2#2 ∨ x = 3#2 := by decide
  obtain h | h | h | h := hmod (modField m)
  · by_cases hrm : rmField m = 6#3 <;> simp [decodeOperand, h, hrm]
  all_goals simp [decodeOperand, h]

/-- The decoder gives no table case that stands for the direct one. -/
theorem wellFormed_decodeDescriptor (m b1 b2 : Byte) : (decodeDescriptor m b1 b2).wellFormed = true := by
  simp only [Descriptor.wellFormed, decodeDescriptor]
  obtain ⟨_, _, h⟩ | ⟨_, hrm, h⟩ | ⟨_, h⟩ | ⟨_, h⟩ | ⟨_, h⟩ := decodeOperand_cases m b1 b2 <;>
    simp [*, Operand.wellFormed, MemOperand.wellFormed]

theorem Descriptor.skip_le (d : Descriptor) : d.skip ≤ 3 := by
  obtain ⟨op, rm | disp | ⟨rm, _ | _ | _⟩⟩ := d <;> simp [skip, Operand.skip, MemOperand.skip, Disp.size]

theorem Descriptor.length_bytes (d : Descriptor) : d.bytes.length = d.skip := by
  obtain ⟨op, rm | disp | ⟨rm, _ | _ | _⟩⟩ := d <;> rfl

/-- The bytes of a decoded descriptor are the bytes it was decoded from. -/
theorem bytes_decodeDescriptor (m b1 b2 : Byte) :
    (decodeDescriptor m b1 b2).bytes = [m, b1, b2].take (decodeDescriptor m b1 b2).skip := by
  have hm := descriptorByte_fields m
  simp only [Descriptor.bytes, Descriptor.skip, decodeDescriptor]
  obtain ⟨hmod, hrm, h⟩ | ⟨hmod, _, h⟩ | ⟨hmod, h⟩ | ⟨hmod, h⟩ | ⟨hmod, h⟩ := decodeOperand_cases m b1 b2 <;>
    rw [hmod] at hm
  · rw [hrm] at hm
    simp [h, hm, MemOperand.bytes, Operand.skip, MemOperand.skip]
  all_goals simp [h, hm, MemOperand.bytes, Operand.skip, MemOperand.skip, Disp.size]

/-- A well-formed descriptor is decoded from its bytes, whatever follows them. -/
theorem decodeDescriptor_bytes {d : Descriptor} (h : d.wellFormed = true) (rest : List Byte) :
    decodeDescriptor ((d.bytes ++ rest).getD 0 0) ((d.bytes ++ rest).getD 1 0) ((d.bytes ++ rest).getD 2 0) = d := by
  obtain ⟨op, rm | disp | ⟨rm, _ | b | w⟩⟩ := d
  case mem.based.none =>
    have hrm : rm ≠ 6#3 := by simpa [Descriptor.wellFormed, Operand.wellFormed, MemOperand.wellFormed] using h
    simp [Descriptor.bytes, MemOperand.bytes, decodeDescriptor, decodeOperand, hrm]
  all_goals simp [Descriptor.bytes, MemOperand.bytes, decodeDescriptor, decodeOperand]

/-! ### The opcode map (spec R106, R107, R175) -/

/-- The map keeps the vector, the op and the operand, and gives the ignored rows only the operands the table leaves them
(spec R340). -/
theorem instrOf_format_and_wellFormed (e : Esc) (d : Descriptor) :
    (instrOf e d).format = .primary e d ∧ (instrOf e d).wellFormed = d.wellFormed := by
  obtain ⟨op, rm | m⟩ := d
  · revert op rm
    cases e <;> decide
  · revert op
    cases e <;> exact forall_bitVec3.2 ⟨⟨rfl, rfl⟩, ⟨rfl, rfl⟩, ⟨rfl, rfl⟩, ⟨rfl, rfl⟩, ⟨rfl, rfl⟩, ⟨rfl, rfl⟩, ⟨rfl, rfl⟩,
      rfl, rfl⟩

theorem format_instrOf (e : Esc) (d : Descriptor) : (instrOf e d).format = .primary e d :=
  (instrOf_format_and_wellFormed e d).1

theorem wellFormed_instrOf (e : Esc) (d : Descriptor) : (instrOf e d).wellFormed = d.wellFormed :=
  (instrOf_format_and_wellFormed e d).2

/-- The map read back gives the instruction; for the three rows that exclude operands, Laws/PerInstr.lean says it. -/
theorem Instr.instr_format {i : Instr} (h : i.wellFormed = true) : i.format.instr = i := by
  cases i with
  | ignoredDbReg op rm => exact Laws.ReadBack.ignoredDbReg op rm h
  | ignoredDdReg op rm => exact Laws.ReadBack.ignoredDdReg op rm h
  | ignoredDfReg op rm => exact Laws.ReadBack.ignoredDfReg op rm h
  | _ => rfl

/-! ### Trap sequences (spec R90) -/

/-- The descriptor of a trap sequence, if it has one, is well formed. -/
def Format.wellFormed : Format → Bool
  | .primary _ d => d.wellFormed
  | .override _ d => d.wellFormed
  | .sync => true

theorem Format.format_instr (f : Format) : f.instr.format = f := by
  cases f with
  | primary e d => exact format_instrOf e d
  | override | sync => rfl

theorem Format.wellFormed_instr (f : Format) : f.instr.wellFormed = f.wellFormed := by
  cases f with
  | primary e d => exact wellFormed_instrOf e d
  | override | sync => rfl

theorem Instr.wellFormed_format {i : Instr} (h : i.wellFormed = true) : i.format.wellFormed = true := by
  rw [← Format.wellFormed_instr, instr_format h, h]

theorem Format.length_operandBytes (f : Format) : f.operandBytes.length = f.skipTotal := by
  cases f with
  | primary e d => exact d.length_bytes
  | override se d => simp [Format.operandBytes, Format.skipTotal, Descriptor.length_bytes, Nat.add_comm]
  | sync => rfl

theorem wellFormed_decodeFormat (v : TrapVector) (b0 b1 b2 b3 : Byte) :
    (decodeFormat v b0 b1 b2 b3).wellFormed = true := by
  cases v with
  | primary | segovr => exact wellFormed_decodeDescriptor ..
  | fwait => rfl

theorem vector_decodeFormat (v : TrapVector) (b0 b1 b2 b3 : Byte) : (decodeFormat v b0 b1 b2 b3).vector = v := by
  cases v <;> rfl

/-- A decoded trap sequence is made of the bytes the skip count covers (spec R104, R179). -/
theorem operandBytes_decodeFormat (v : TrapVector) (b0 b1 b2 b3 : Byte) :
    (decodeFormat v b0 b1 b2 b3).operandBytes = [b0, b1, b2, b3].take (decodeFormat v b0 b1 b2 b3).skipTotal := by
  cases v with
  | primary e =>
    simp only [decodeFormat, Format.operandBytes, Format.skipTotal, bytes_decodeDescriptor]
    exact (List.take_append_of_le_length (Descriptor.skip_le _)).symm
  | segovr =>
    simp only [decodeFormat, Format.operandBytes, Format.skipTotal, bytes_decodeDescriptor, Nat.add_comm 1,
      List.take_succ_cons]
  | fwait => rfl

/-- A well-formed trap sequence is decoded from its operand bytes, whatever follows them. -/
theorem decodeFormat_operandBytes {f : Format} (h : f.wellFormed = true) (rest : List Byte) :
    decodeFormat f.vector ((f.operandBytes ++ rest).getD 0 0) ((f.operandBytes ++ rest).getD 1 0)
      ((f.operandBytes ++ rest).getD 2 0) ((f.operandBytes ++ rest).getD 3 0) = f := by
  cases f with
  | primary e d => exact congrArg (Format.primary e) (decodeDescriptor_bytes h rest)
  | override se d => exact congrArg (Format.override se) (decodeDescriptor_bytes h rest)
  | sync => rfl

/-- The number of a vector names it, under every base (spec R171; assumption log 25). -/
theorem TrapVector.ofNumber_number (base : Byte) (v : TrapVector) :
    TrapVector.ofNumber base (v.number base) = some v := by
  have hsub : ∀ k : Byte, base + k - base = k := fun k => add_sub_cancel_left base k
  cases v with
  | primary e => cases e <;> simp [TrapVector.ofNumber, TrapVector.number, hsub, Esc.number]
  | segovr | fwait => simp [TrapVector.ofNumber, TrapVector.number, hsub]

theorem encode_decodeTrap (base : Byte) (v : TrapVector) (b0 b1 b2 b3 : Byte) :
    encode base (decodeTrap v b0 b1 b2 b3) =
      0xCD :: v.number base :: [b0, b1, b2, b3].take (decodeTrap v b0 b1 b2 b3).skipTotal := by
  simp only [encode, decodeTrap, Instr.operandBytes, Instr.skipTotal, Format.format_instr, vector_decodeFormat,
    operandBytes_decodeFormat, intOpcode]

/-- Settles O2: the vector is read from its number, the format from its operand bytes, and the map read back gives the
instruction. -/
theorem encodeDecode : Obligations.EncodeDecode := by
  intro base i rest h
  have hf := decodeFormat_operandBytes (Instr.wellFormed_format h) rest
  simp only [encode, decode, List.cons_append, TrapVector.ofNumber_number, Instr.operandBytes]
  rw [hf]
  simp [← Format.length_operandBytes, Instr.instr_format h]

/-- Settles O3: what the decoder gives is well formed, and the opcode map loses none of the bytes it came from. -/
theorem decodeEncode : Obligations.DecodeEncode := fun base v b0 b1 b2 b3 =>
  ⟨(Format.wellFormed_instr _).trans (wellFormed_decodeFormat v b0 b1 b2 b3), encode_decodeTrap base v b0 b1 b2 b3⟩

/-- Settles O1: the model evaluates each of the byte sequences. -/
theorem decodesSpecWords : Obligations.DecodesSpecWords :=
  ⟨rfl, rfl, rfl, rfl, rfl, rfl, rfl, rfl, rfl, rfl, rfl⟩

end Sys2Proof
end

section
/-! PROOFS. The memory operand (spec R96 to R102) and the segment override (spec R92, R176, R183). -/

namespace Sys2Proof.Machine

/-! ### The memory operand -/

/-- Settles O4, form by form. -/
theorem descriptorFields : Obligations.DescriptorFields := by
  intro m b1 b2
  refine ⟨rfl, ?_⟩
  simp only [← modField.eq_1, ← rmField.eq_1, Descriptor.skip, decodeDescriptor]
  obtain ⟨hmod, hrm, h⟩ | ⟨hmod, hrm, h⟩ | ⟨hmod, h⟩ | ⟨hmod, h⟩ | ⟨hmod, h⟩ := decodeOperand_cases m b1 b2 <;>
    simp [*, Operand.skip, MemOperand.skip, Disp.size]

/-- The pairing table, row by row (spec R99). -/
theorem Guest.base_eq (g : Guest) (rm : BitVec 3) :
    g.base rm =
      if rm = 0#3 then g.bx + g.si
      else if rm = 1#3 then g.bx + g.di
      else if rm = 2#3 then g.bp + g.si
      else if rm = 3#3 then g.bp + g.di
      else if rm = 4#3 then g.si
      else if rm = 5#3 then g.di
      else if rm = 6#3 then g.bp
      else g.bx := by
  revert rm
  exact forall_bitVec3.2 ⟨rfl, rfl, rfl, rfl, rfl, rfl, rfl, rfl⟩

/-- Settles O5: each memory form is the direct displacement, or a base of the pairing table and a displacement. -/
theorem effectiveOffset : Obligations.EffectiveOffset := by
  intro s m b1 b2 o ho
  simp only [← modField.eq_1, ← rmField.eq_1, ← dispWord_eq_ofNat, ← Guest.base_eq]
  obtain ⟨hmod, hrm, h⟩ | ⟨hmod, hrm, h⟩ | ⟨hmod, h⟩ | ⟨hmod, h⟩ | ⟨hmod, h⟩ := decodeOperand_cases m b1 b2 <;>
    cases h.symm.trans ho
  all_goals simp [State.eaOff, Guest.offset, dispValue, *]

/-- Settles O6: the override decides before the operand does; the direct form is one with rm 6. -/
theorem segmentResolution : Obligations.SegmentResolution := by
  intro s m b1 b2 o ho
  have hdefault : s.guest.seg (defaultSeg o) =
      if rmField m = 2#3 ∨ rmField m = 3#3 ∨ rmField m = 6#3 then s.guest.ss else s.guest.ds := by
    obtain ⟨_, hrm, h⟩ | ⟨_, _, h⟩ | ⟨_, h⟩ | ⟨_, h⟩ | ⟨_, h⟩ := decodeOperand_cases m b1 b2 <;>
      cases h.symm.trans ho
    · simp [defaultSeg, hrm, Guest.seg]
    all_goals exact apply_ite s.guest.seg ..
  unfold State.eaSeg Guest.segFor
  cases s.guest.override with
  | none => exact hdefault
  | some r => cases r <;> rfl

/-! ### SEGOVR -/

/-- The primary vector of a descriptor selects neither FWAIT nor SEGOVR, whose trap sequences are of other formats. -/
theorem instrOf_ne (e : Esc) (d : Descriptor) : instrOf e d ≠ .fwait ∧ ∀ se d', instrOf e d ≠ .segovr se d' := by
  refine ⟨fun h => ?_, fun se d' h => ?_⟩ <;> cases (format_instrOf e d).symm.trans (congrArg Instr.format h)

/-- A primary vector's rule runs in the state the trap entered (spec R174). -/
theorem State.ruleEntry_instrOf (s : State) (e : Esc) (d : Descriptor) : s.ruleEntry (instrOf e d) = s := by
  unfold ruleEntry
  split
  · next se d' h => exact absurd h ((instrOf_ne e d).2 se d')
  · rfl

theorem skipTotal_instrOf (e : Esc) (d : Descriptor) : (instrOf e d).skipTotal = d.skip := by
  rw [Instr.skipTotal, format_instrOf, Format.skipTotal]

/-- The transaction of a primary vector: the rule its descriptor selects, then the patch by `skipBytes` (spec R174). -/
theorem exec_primary (e : Esc) (d : Descriptor) (s : State) :
    exec (instrOf e d) s = .next ((ruleOf (instrOf e d) s).patch d.skip) := by
  rw [exec_instrOf, State.ruleEntry_instrOf, skipTotal_instrOf]

theorem State.patch_retIP_succ (s : State) (k : Nat) : (s.patch (1 + k)).retIP = (s.patch k).retIP + 1#16 := by
  rw [patch_retIP, patch_retIP, BitVec.ofNat_add, add_comm (BitVec.ofNat 16 1), add_assoc]

/-- Two patches of one state differ in the RetIP word alone. -/
theorem State.patch_agree (s : State) (j k : Nat) :
    (s.patch j).block = (s.patch k).block ∧ (s.patch j).guest = (s.patch k).guest ∧
    (s.patch j).params = (s.patch k).params ∧ (s.patch j).inTransaction = (s.patch k).inTransaction ∧
    ∀ a, ¬ s.RetIPByte a → (s.patch j).mem.read a = (s.patch k).mem.read a := by
  refine ⟨by simp, by simp, by simp, by simp, fun a ha => ?_⟩
  rw [patch_read_other _ _ ha, patch_read_other _ _ ha]

/-- A rule leaves SS and SP alone, so RetIP stands where it stood. -/
theorem retIPByte_ruleOf (i : Instr) (s : State) (a : Nat) : (ruleOf i s).RetIPByte a ↔ s.RetIPByte a := by
  simp only [State.RetIPByte, ruleOf_guest]

/-- Settles O13: both transactions run one rule in the state under the override and differ in the patch alone. -/
theorem segovrRuns : Obligations.SegovrRuns := by
  refine ⟨⟨rfl, rfl, rfl, rfl⟩, instrOf_ne, fun se d s => ?_⟩
  obtain ⟨hblock, hguest, hparams, htrans, hmem⟩ :=
    (ruleOf (instrOf (seEsc se) d) (s.withOverride (s.params.segCodeMap (seCode se)))).patch_agree (1 + d.skip) d.skip
  exact ⟨_, _, rfl, exec_primary .., hblock, hguest, hparams, htrans, State.patch_retIP_succ .., fun a ha =>
    hmem a (mt (retIPByte_ruleOf ..).1 ha)⟩

end Sys2Proof.Machine
end

section
/-! PROOFS. The classes and the exact values of binary64 patterns (spec R13, R21, R133), by their sign and magnitude. -/

namespace Sys2Proof.Machine

theorem magUnits_eq_zero_iff (p mag : Nat) : magUnits p mag = 0 ↔ mag = 0 := by
  have hdecomp : mag / 2 ^ p * 2 ^ p + mag % 2 ^ p = mag := Nat.div_add_mod' ..
  have hp : 0 < 2 ^ p := Nat.two_pow_pos p
  rw [magUnits]
  split
  · next h =>
    rw [h] at hdecomp
    omega
  · next h =>
    have hmag : mag ≠ 0 := fun h0 => h (by simp [h0])
    simp [hmag]

theorem F64.mag_lt (x : Double) : F64.mag x < 2 ^ 63 := Nat.mod_lt _ (by decide)

theorem F64.toNat_eq (x : Double) : x.toNat = (F64.sign x).toNat * 2 ^ 63 + F64.mag x := by
  have hx := x.isLt
  rw [F64.sign, F64.mag, BitVec.msb_eq_decide]
  by_cases h : 2 ^ (64 - 1) ≤ x.toNat
  · rw [decide_eq_true h, Bool.toNat_true]
    omega
  · rw [decide_eq_false h, Bool.toNat_false]
    omega

/-- A pattern is its sign and its magnitude. -/
theorem F64.eq_of_sign_of_mag {x y : Double} (hs : F64.sign x = F64.sign y) (hm : F64.mag x = F64.mag y) : x = y :=
  BitVec.eq_of_toNat_eq (by rw [F64.toNat_eq, F64.toNat_eq, hs, hm])

/-! ### Classes -/

theorem F64.isZero_iff_mag (x : Double) : F64.isZero x = true ↔ F64.mag x = 0 := by
  simp only [F64.isZero, F64.expo_eq, F64.frac_eq, Bool.and_eq_true, beq_iff_eq]
  omega

theorem F64.mag_lt_infMag {x : Double} (hn : F64.isNaN x = false) (hi : F64.isInf x = false) :
    F64.mag x < F64.infMag := by
  rw [Bool.eq_false_iff, Ne, F64.isNaN_iff] at hn
  rw [Bool.eq_false_iff, Ne, F64.isInf_iff] at hi
  omega

theorem F64.isNaN_of_isInf {x : Double} (h : F64.isInf x = true) : F64.isNaN x = false := by
  rw [F64.isInf_iff] at h
  rw [Bool.eq_false_iff, Ne, F64.isNaN_iff, h]
  exact lt_irrefl _

theorem F64.isZero_of_isInf {x : Double} (h : F64.isInf x = true) : F64.isZero x = false := by
  rw [F64.isInf_iff] at h
  rw [Bool.eq_false_iff, Ne, F64.isZero_iff_mag, h]
  decide

theorem F64.isNaN_of_isZero {x : Double} (h : F64.isZero x = true) : F64.isNaN x = false := by
  rw [F64.isZero_iff_mag] at h
  rw [Bool.eq_false_iff, Ne, F64.isNaN_iff, h]
  decide

theorem F64.isInf_of_isZero {x : Double} (h : F64.isZero x = true) : F64.isInf x = false := by
  by_contra hi
  rw [Bool.not_eq_false] at hi
  simp [F64.isZero_of_isInf hi] at h

theorem F64.isInf_inf (s : Bool) : F64.isInf (F64.inf s) = true :=
  (F64.isInf_iff _).2 (F64.mag_pack s (by decide))

theorem F64.isZero_zero (s : Bool) : F64.isZero (F64.zero s) = true :=
  (F64.isZero_iff_mag _).2 (F64.mag_pack s (by decide))

@[simp] theorem F64.sign_inf (s : Bool) : F64.sign (F64.inf s) = s := F64.sign_pack ..
@[simp] theorem F64.sign_zero (s : Bool) : F64.sign (F64.zero s) = s := F64.sign_pack ..
@[simp] theorem F64.sign_round (s : Bool) (n d : Nat) : F64.sign (F64.round s n d) = s := F64.sign_pack ..

/-- An infinity is the pattern of its sign. -/
theorem F64.eq_inf {x : Double} (h : F64.isInf x = true) : x = F64.inf (F64.sign x) := by
  refine F64.eq_of_sign_of_mag (F64.sign_inf _).symm ?_
  rw [(F64.isInf_iff _).1 h, (F64.isInf_iff _).1 (F64.isInf_inf _)]

/-- A zero is the pattern of its sign. -/
theorem F64.eq_zero {x : Double} (h : F64.isZero x = true) : x = F64.zero (F64.sign x) := by
  refine F64.eq_of_sign_of_mag (F64.sign_zero _).symm ?_
  rw [(F64.isZero_iff_mag _).1 h, (F64.isZero_iff_mag _).1 (F64.isZero_zero _)]

/-! ### Values -/

theorem F64.units_eq_zero_iff (x : Double) : F64.units x = 0 ↔ F64.isZero x = true := by
  rw [F64.units_eq, magUnits_eq_zero_iff, F64.isZero_iff_mag]

theorem F64.units_pos {x : Double} (h : F64.isZero x = false) : 0 < F64.units x :=
  Nat.pos_of_ne_zero fun h0 => by simp [(F64.units_eq_zero_iff x).1 h0] at h

theorem F64.value_of_neg {x : Double} (h : F64.sign x = true) : F64.value x = -(F64.units x : Int) := by
  rw [F64.value, if_pos h]

theorem F64.value_of_nonneg {x : Double} (h : F64.sign x = false) : F64.value x = F64.units x := by
  rw [F64.value, h, if_neg Bool.false_ne_true]

@[simp] theorem F64.natAbs_value (x : Double) : (F64.value x).natAbs = F64.units x := by
  cases h : F64.sign x
  · rw [F64.value_of_nonneg h, Int.natAbs_natCast]
  · rw [F64.value_of_neg h, Int.natAbs_neg, Int.natAbs_natCast]

theorem F64.value_eq_zero_iff (x : Double) : F64.value x = 0 ↔ F64.isZero x = true := by
  rw [← Int.natAbs_eq_zero, F64.natAbs_value, F64.units_eq_zero_iff]

theorem F64.units_of_isZero {x : Double} (h : F64.isZero x = true) : F64.units x = 0 := (F64.units_eq_zero_iff x).2 h

theorem F64.value_of_isZero {x : Double} (h : F64.isZero x = true) : F64.value x = 0 := (F64.value_eq_zero_iff x).2 h

/-- A rounded positive integer is no zero. -/
theorem F64.isZero_round {n : Nat} (s : Bool) (hn : n ≠ 0) : F64.isZero (F64.round s n 1) = false := by
  have hinf : F64.infMag ≠ 0 := by decide
  rw [Bool.eq_false_iff, Ne, F64.isZero_iff_mag, F64.mag_round, roundMag_eq_min]
  intro h
  have hexp : roundExp 52 n 1 = 0 := by omega
  have hsig : roundSig 52 n 1 = n := by simp [roundSig, hexp, rne, Nat.mod_one]
  omega

/-! ### Negation -/

@[simp] theorem F64.sign_neg (x : Double) : F64.sign (F64.neg x) = !F64.sign x := by
  rw [F64.sign, F64.neg, BitVec.msb_xor, show (0x8000000000000000 : Double).msb = true by decide, Bool.xor_true,
    F64.sign]

@[simp] theorem F64.mag_neg (x : Double) : F64.mag (F64.neg x) = F64.mag x := by
  have hmag (y : Double) : F64.mag y = (y.extractLsb' 0 63).toNat := by
    simp [F64.mag, BitVec.extractLsb'_toNat]
  rw [hmag, hmag, F64.neg, BitVec.extractLsb'_xor,
    show (0x8000000000000000 : Double).extractLsb' 0 63 = 0#63 by decide, BitVec.xor_zero]

@[simp] theorem F64.units_neg (x : Double) : F64.units (F64.neg x) = F64.units x := by
  rw [F64.units_eq, F64.units_eq, F64.mag_neg]

@[simp] theorem F64.isInf_neg (x : Double) : F64.isInf (F64.neg x) = F64.isInf x := by
  rw [Bool.eq_iff_iff, F64.isInf_iff, F64.isInf_iff, F64.mag_neg]

theorem F64.value_neg (x : Double) : F64.value (F64.neg x) = -F64.value x := by
  cases h : F64.sign x
  · rw [F64.value_of_nonneg h, F64.value_of_neg (by simp [h]), F64.units_neg]
  · rw [F64.value_of_neg h, F64.value_of_nonneg (by simp [h]), F64.units_neg, Int.neg_neg]

end Sys2Proof.Machine
end

section
/-! PROOFS. The cases of add, sub, mul and div (spec R130, R238). -/

namespace Sys2Proof.Machine

/-! ### add -/

theorem F64.add_eq_none_iff (a b : Double) : F64.add a b = none ↔ F64.isNaN a = true ∨ F64.isNaN b = true ∨
    (F64.isInf a = true ∧ F64.isInf b = true ∧ F64.sign a ≠ F64.sign b) := by
  unfold F64.add
  split
  · next hnan => simpa using or_assoc.1 (.inl (Bool.or_eq_true_iff.1 hnan))
  · next hnan =>
    rw [Bool.or_eq_true, not_or] at hnan
    obtain ⟨ha, hb⟩ := hnan
    by_cases hia : F64.isInf a = true
    · simp [ha, hb, hia]
    · by_cases hib : F64.isInf b = true
      · simp [ha, hb, hia, hib]
      · by_cases hz : F64.value a + F64.value b = 0 <;> simp [ha, hb, hia, hib, hz]

theorem F64.add_of_finite {a b : Double} (hna : F64.isNaN a = false) (hia : F64.isInf a = false)
    (hnb : F64.isNaN b = false) (hib : F64.isInf b = false) :
    F64.add a b = some (if F64.value a + F64.value b = 0 then F64.zero (F64.sign a && F64.sign b)
      else F64.round (decide (F64.value a + F64.value b < 0)) (F64.value a + F64.value b).natAbs 1) := by
  rw [apply_ite some]
  simp [F64.add, hna, hia, hnb, hib]

theorem F64.add_inf_left {a b : Double} (ha : F64.isInf a = true) (hb : F64.isNaN b = false)
    (hs : F64.isInf b = true → F64.sign a = F64.sign b) : F64.add a b = some a := by
  by_cases hib : F64.isInf b = true
  · simp [F64.add, ha, hb, F64.isNaN_of_isInf ha, hs hib]
  · simp [F64.add, ha, hb, F64.isNaN_of_isInf ha, hib]

theorem F64.add_inf_right {a b : Double} (hna : F64.isNaN a = false) (hia : F64.isInf a = false)
    (hb : F64.isInf b = true) : F64.add a b = some b := by
  simp [F64.add, hna, hia, hb, F64.isNaN_of_isInf hb]

/-- A sum is a zero only where it is exact: an infinity and a rounded nonzero sum are no zeros. -/
theorem F64.add_zero_result {a b r : Double} (h : F64.add a b = some r) (hr : F64.isZero r = true) :
    F64.value a + F64.value b = 0 ∧ F64.sign r = (F64.sign a && F64.sign b) := by
  have hnone : F64.add a b ≠ none := by simp [h]
  rw [Ne, F64.add_eq_none_iff, not_or, not_or, Bool.not_eq_true, Bool.not_eq_true] at hnone
  obtain ⟨hna, hnb, hinf⟩ := hnone
  by_cases hia : F64.isInf a = true
  · rw [F64.add_inf_left hia hnb fun hib => by simpa [hia, hib] using hinf, Option.some_inj] at h
    simp [← h, F64.isZero_of_isInf hia] at hr
  · rw [Bool.not_eq_true] at hia
    by_cases hib : F64.isInf b = true
    · rw [F64.add_inf_right hna hia hib, Option.some_inj] at h
      simp [← h, F64.isZero_of_isInf hib] at hr
    · rw [F64.add_of_finite hna hia hnb (Bool.eq_false_iff.2 hib), Option.some_inj] at h
      by_cases hz : F64.value a + F64.value b = 0
      · rw [if_pos hz] at h
        exact ⟨hz, by rw [← h, F64.sign_zero]⟩
      · rw [if_neg hz] at h
        rw [← h, F64.isZero_round _ (Int.natAbs_ne_zero.2 hz)] at hr
        exact absurd hr Bool.false_ne_true

/-! ### sub: the sum with the second operand's sign inverted -/

theorem F64.sub_eq_none_iff (a b : Double) : F64.sub a b = none ↔ F64.isNaN a = true ∨ F64.isNaN b = true ∨
    (F64.isInf a = true ∧ F64.isInf b = true ∧ F64.sign a = F64.sign b) := by
  rw [F64.sub, F64.add_eq_none_iff, F64.isNaN_neg, F64.isInf_neg, F64.sign_neg, Bool.ne_not]

theorem F64.sub_of_finite {a b : Double} (hna : F64.isNaN a = false) (hia : F64.isInf a = false)
    (hnb : F64.isNaN b = false) (hib : F64.isInf b = false) :
    F64.sub a b = some (if F64.value a - F64.value b = 0 then F64.zero (F64.sign a && !F64.sign b)
      else F64.round (decide (F64.value a - F64.value b < 0)) (F64.value a - F64.value b).natAbs 1) := by
  rw [F64.sub, F64.add_of_finite hna hia (by rwa [F64.isNaN_neg]) (by rwa [F64.isInf_neg]), F64.value_neg, F64.sign_neg,
    ← Int.sub_eq_add_neg]

theorem F64.sub_inf_left {a b : Double} (ha : F64.isInf a = true) (hb : F64.isNaN b = false)
    (hs : F64.isInf b = true → F64.sign a ≠ F64.sign b) : F64.sub a b = some a :=
  F64.add_inf_left ha (by rwa [F64.isNaN_neg]) fun hib => by
    rw [F64.sign_neg, Bool.eq_not]
    exact hs (by rwa [F64.isInf_neg] at hib)

theorem F64.sub_inf_right {a b : Double} (hna : F64.isNaN a = false) (hia : F64.isInf a = false)
    (hb : F64.isInf b = true) : F64.sub a b = some (F64.neg b) :=
  F64.add_inf_right hna hia (by rwa [F64.isInf_neg])

theorem F64.sub_zero_result {a b r : Double} (h : F64.sub a b = some r) (hr : F64.isZero r = true) :
    F64.value a - F64.value b = 0 ∧ F64.sign r = (F64.sign a && !F64.sign b) := by
  rw [Int.sub_eq_add_neg, ← F64.value_neg, ← F64.sign_neg]
  exact F64.add_zero_result h hr

/-! ### mul -/

theorem F64.mul_of_finite {a b : Double} (hna : F64.isNaN a = false) (hia : F64.isInf a = false)
    (hnb : F64.isNaN b = false) (hib : F64.isInf b = false) :
    F64.mul a b = some (F64.round (F64.sign a != F64.sign b) (F64.units a * F64.units b) F64.one) := by
  simp [F64.mul, hna, hia, hnb, hib]

theorem F64.mul_of_inf {a b : Double} (hna : F64.isNaN a = false) (hnb : F64.isNaN b = false)
    (h : F64.isInf a = true ∨ F64.isInf b = true) :
    F64.mul a b = if F64.isZero a || F64.isZero b then none else some (F64.inf (F64.sign a != F64.sign b)) := by
  rw [← Bool.or_eq_true] at h
  simp only [F64.mul, hna, hnb, h, Bool.or_self, Bool.false_eq_true, if_true, if_false]

theorem F64.mul_eq_none_iff (a b : Double) : F64.mul a b = none ↔ F64.isNaN a = true ∨ F64.isNaN b = true ∨
    (F64.isInf a = true ∧ F64.isZero b = true) ∨ (F64.isZero a = true ∧ F64.isInf b = true) := by
  by_cases hna : F64.isNaN a = true
  · simp [F64.mul_nan_left b hna, hna]
  by_cases hnb : F64.isNaN b = true
  · simp [F64.mul_nan_right a hnb, hnb]
  rw [Bool.not_eq_true] at hna hnb
  by_cases hia : F64.isInf a = true
  · simp [F64.mul_of_inf hna hnb (.inl hia), hna, hnb, hia, F64.isZero_of_isInf hia]
  by_cases hib : F64.isInf b = true
  · simp [F64.mul_of_inf hna hnb (.inr hib), hna, hnb, hia, hib, F64.isZero_of_isInf hib]
  rw [Bool.not_eq_true] at hia hib
  simp [F64.mul_of_finite hna hia hnb hib, hna, hnb, hia, hib]

theorem F64.sign_mul {a b r : Double} (h : F64.mul a b = some r) : F64.sign r = (F64.sign a != F64.sign b) := by
  have hnone : F64.mul a b ≠ none := by simp [h]
  rw [Ne, F64.mul_eq_none_iff, not_or, not_or, Bool.not_eq_true, Bool.not_eq_true] at hnone
  obtain ⟨hna, hnb, -⟩ := hnone
  by_cases hinf : F64.isInf a = true ∨ F64.isInf b = true
  · rw [F64.mul_of_inf hna hnb hinf, Option.ite_none_left_eq_some, Option.some_inj] at h
    rw [← h.2, F64.sign_inf]
  · rw [not_or, Bool.not_eq_true, Bool.not_eq_true] at hinf
    rw [F64.mul_of_finite hna hinf.1 hnb hinf.2, Option.some_inj] at h
    rw [← h, F64.sign_round]

/-! ### div -/

theorem F64.div_inf_left {a b : Double} (ha : F64.isInf a = true) (hb : F64.isNaN b = false) :
    F64.div a b = if F64.isInf b then none else some (F64.inf (F64.sign a != F64.sign b)) := by
  simp [F64.div, ha, hb, F64.isNaN_of_isInf ha]

theorem F64.div_inf_right {a b : Double} (hna : F64.isNaN a = false) (hia : F64.isInf a = false)
    (hb : F64.isInf b = true) : F64.div a b = some (F64.zero (F64.sign a != F64.sign b)) := by
  simp [F64.div, hna, hia, hb, F64.isNaN_of_isInf hb]

theorem F64.div_zero_right {a b : Double} (hna : F64.isNaN a = false) (hia : F64.isInf a = false)
    (hb : F64.isZero b = true) :
    F64.div a b = if F64.isZero a then none else some (F64.inf (F64.sign a != F64.sign b)) := by
  simp [F64.div, hna, hia, hb, F64.isNaN_of_isZero hb, F64.isInf_of_isZero hb]

theorem F64.div_of_finite {a b : Double} (hna : F64.isNaN a = false) (hia : F64.isInf a = false)
    (hnb : F64.isNaN b = false) (hib : F64.isInf b = false) (hzb : F64.isZero b = false) :
    F64.div a b = some (F64.round (F64.sign a != F64.sign b) (F64.units a * F64.one) (F64.units b)) := by
  simp [F64.div, hna, hia, hnb, hib, hzb]

/-- A quotient is a NaN in the four cases of the rule, and else has the sign of the signs' exclusive or. -/
theorem F64.div_cases (a b : Double) : (F64.div a b = none ∧ (F64.isNaN a = true ∨ F64.isNaN b = true ∨
      (F64.isInf a = true ∧ F64.isInf b = true) ∨ (F64.isZero a = true ∧ F64.isZero b = true))) ∨
    ∃ r, F64.div a b = some r ∧ F64.sign r = (F64.sign a != F64.sign b) ∧ F64.isNaN a = false ∧
      F64.isNaN b = false ∧ ¬ (F64.isInf a = true ∧ F64.isInf b = true) ∧
      ¬ (F64.isZero a = true ∧ F64.isZero b = true) := by
  by_cases hna : F64.isNaN a = true
  · exact .inl ⟨F64.div_nan_left b hna, .inl hna⟩
  by_cases hnb : F64.isNaN b = true
  · exact .inl ⟨F64.div_nan_right a hnb, .inr (.inl hnb)⟩
  rw [Bool.not_eq_true] at hna hnb
  by_cases hia : F64.isInf a = true
  · rw [F64.div_inf_left hia hnb]
    by_cases hib : F64.isInf b = true
    · simp [hia, hib]
    · simp [hna, hnb, hib, F64.isZero_of_isInf hia]
  rw [Bool.not_eq_true] at hia
  by_cases hib : F64.isInf b = true
  · simp [F64.div_inf_right hna hia hib, hna, hnb, hia, F64.isZero_of_isInf hib]
  by_cases hzb : F64.isZero b = true
  · rw [F64.div_zero_right hna hia hzb]
    by_cases hza : F64.isZero a = true
    · simp [hza, hzb]
    · simp [hna, hnb, hia, hza]
  rw [Bool.not_eq_true] at hib hzb
  simp [F64.div_of_finite hna hia hnb hib hzb, hna, hnb, hia, hzb]

theorem F64.div_eq_none_iff (a b : Double) : F64.div a b = none ↔ F64.isNaN a = true ∨ F64.isNaN b = true ∨
    (F64.isInf a = true ∧ F64.isInf b = true) ∨ (F64.isZero a = true ∧ F64.isZero b = true) := by
  obtain ⟨hdiv, hcase⟩ | ⟨r, hdiv, -, hna, hnb, hinf, hzero⟩ := F64.div_cases a b
  · simp only [hdiv, hcase]
  · simp only [hdiv, hna, hnb, hinf, hzero, reduceCtorEq, Bool.false_eq_true, or_self]

theorem F64.sign_div {a b r : Double} (h : F64.div a b = some r) : F64.sign r = (F64.sign a != F64.sign b) := by
  obtain ⟨hdiv, -⟩ | ⟨q, hdiv, hsign, -⟩ := F64.div_cases a b
  · simp [hdiv] at h
  · rw [hdiv, Option.some_inj] at h
    rw [← h, hsign]

/-- Settles O54: each operation by the classes of its operands, `sub` through `add`. -/
theorem arithmeticSpecials : Obligations.ArithmeticSpecials := by
  intro a b
  refine ⟨F64.add_eq_none_iff a b, F64.sub_eq_none_iff a b, F64.mul_eq_none_iff a b, F64.div_eq_none_iff a b,
    fun _ => F64.sign_mul, fun _ => F64.sign_div, fun _ => F64.add_zero_result, fun hna hia hza hzb => ?_,
    F64.div_inf_right, fun _ => F64.sub_zero_result, fun hna hia hnb hib => ?_, fun hia hnb => ?_,
    fun hna hia hib => ⟨F64.add_inf_right hna hia hib, F64.sub_inf_right hna hia hib⟩, fun hna hnb hza hzb hinf => ?_⟩
  · simp [F64.div_zero_right hna hia hzb, hza]
  · exact ⟨F64.add_of_finite hna hia hnb hib, F64.sub_of_finite hna hia hnb hib, F64.mul_of_finite hna hia hnb hib,
      F64.div_of_finite hna hia hnb hib⟩
  · exact ⟨F64.add_inf_left hia hnb, F64.sub_inf_left hia hnb, fun hib => by simp [F64.div_inf_left hia hnb, hib]⟩
  · simp [F64.mul_of_inf hna hnb hinf, hza, hzb]

end Sys2Proof.Machine
end

section
/-! PROOFS. Where rounding is exact (spec R13, R130): the values of a format, and integers of few enough bits. -/

namespace Sys2Proof.Machine

/-! ### Scaled quotients -/

theorem rne_mul_self (m : Nat) {d : Nat} (hd : 0 < d) : rne (m * d) d = m := by
  have hdvd : ¬ (2 * (m * d % d) > d ∨ 2 * (m * d % d) = d ∧ m * d / d % 2 = 1) := by
    rw [Nat.mul_mod_left]
    omega
  rw [rne, if_neg hdvd, Nat.mul_div_cancel m hd]

theorem rne_mul_right (n d : Nat) {k : Nat} (hk : 0 < k) : rne (n * k) (d * k) = rne n d := by
  have hgt : 2 * (n % d * k) > d * k ↔ 2 * (n % d) > d := by
    rw [gt_iff_lt, ← Nat.mul_assoc, Nat.mul_lt_mul_right hk]
  have heq : 2 * (n % d * k) = d * k ↔ 2 * (n % d) = d := by
    rw [← Nat.mul_assoc, Nat.mul_left_inj hk.ne']
  simp only [rne, Nat.mul_mod_mul_right, Nat.mul_div_mul_right n d hk, hgt, heq]

theorem roundMag_mul_right (p infMag n d : Nat) {k : Nat} (hk : 0 < k) :
    roundMag p infMag (n * k) (d * k) = roundMag p infMag n d := by
  have hexp : roundExp p (n * k) (d * k) = roundExp p n d := by
    rw [roundExp, roundExp, Nat.mul_div_mul_right n d hk]
  rw [roundMag, roundMag, hexp, Nat.mul_right_comm, rne_mul_right _ _ hk]

theorem F64.round_mul_right (s : Bool) (n d : Nat) {k : Nat} (hk : 0 < k) :
    F64.round s (n * k) (d * k) = F64.round s n d := by
  rw [F64.round, F64.round, roundMag_mul_right _ _ _ _ hk]

/-! ### Values of the format -/

theorem roundExp_le {p n d k : Nat} (hd : 0 < d) (h : n < 2 ^ (p + 1 + k) * d) : roundExp p n d ≤ k := by
  have hlt : n / d < 2 ^ (p + 1 + k) := (Nat.div_lt_iff_lt_mul hd).2 h
  by_cases h0 : n / d = 0
  · simp [roundExp, h0]
  · have := (Nat.log2_lt h0).2 hlt
    unfold roundExp
    omega

/-- A magnitude of the format is rounded to itself. -/
theorem roundMag_magUnits {p infMag mag d : Nat} (hd : 0 < d) (h : mag ≤ infMag) :
    roundMag p infMag (magUnits p mag * d) d = mag := by
  have hp : 0 < 2 ^ p := Nat.two_pow_pos p
  have hf : mag % 2 ^ p < 2 ^ p := Nat.mod_lt _ hp
  have hdecomp : mag / 2 ^ p * 2 ^ p + mag % 2 ^ p = mag := Nat.div_add_mod' ..
  by_cases he : mag / 2 ^ p = 0
  · have hunits : magUnits p mag = mag := by
      rw [he] at hdecomp
      rw [magUnits, if_pos he]
      omega
    have hlt : mag < 2 ^ p := (Nat.div_eq_zero_iff_lt hp).1 he
    have hexp : roundExp p (mag * d) d = 0 := Nat.le_zero.1 <| roundExp_le hd <|
      Nat.mul_lt_mul_of_pos_right (hlt.trans (Nat.pow_lt_pow_right Nat.one_lt_two (Nat.lt_succ_self p))) hd
    rw [hunits, roundMag, hexp, Nat.pow_zero, Nat.mul_one, rne_mul_self _ hd, Nat.zero_mul, Nat.zero_add,
      Nat.min_eq_left h]
  · have hunits : magUnits p mag = (2 ^ p + mag % 2 ^ p) * 2 ^ (mag / 2 ^ p - 1) := by rw [magUnits, if_neg he]
    have hlog : Nat.log2 (magUnits p mag) = p + (mag / 2 ^ p - 1) := by
      rw [Nat.log2_eq_iff (by rw [hunits]; positivity), hunits, Nat.pow_add, Nat.add_right_comm, Nat.pow_add,
        Nat.pow_succ]
      exact ⟨Nat.mul_le_mul_right _ (by omega), Nat.mul_lt_mul_of_pos_right (by omega) (Nat.two_pow_pos _)⟩
    have hexp : roundExp p (magUnits p mag * d) d = mag / 2 ^ p - 1 := by
      rw [roundExp, Nat.mul_div_cancel _ hd, hlog, Nat.add_sub_cancel_left]
    have hsig : (mag / 2 ^ p - 1) * 2 ^ p + 2 ^ p = mag / 2 ^ p * 2 ^ p := by
      rw [← Nat.succ_mul, Nat.succ_eq_add_one, Nat.sub_add_cancel (Nat.one_le_iff_ne_zero.2 he)]
    rw [roundMag, hexp, hunits, Nat.mul_assoc, Nat.mul_comm (2 ^ _) d,
      rne_mul_self _ (Nat.mul_pos hd (Nat.two_pow_pos _)), ← Nat.add_assoc, hsig, hdecomp, Nat.min_eq_left h]

/-- A number is rounded to itself, by whatever denominator it is written. -/
theorem F64.round_units {x : Double} (hx : F64.isNaN x = false) {d : Nat} (hd : 0 < d) :
    F64.round (F64.sign x) (F64.units x * d) d = x := by
  rw [Bool.eq_false_iff, Ne, F64.isNaN_iff, not_lt] at hx
  refine F64.eq_of_sign_of_mag (F64.sign_round ..) ?_
  rw [F64.mag_round, F64.units_eq, roundMag_magUnits hd hx]

/-- A finite magnitude lies below the threshold of overflow. -/
theorem F64.units_lt_of_finite {x : Double} (hn : F64.isNaN x = false) (hi : F64.isInf x = false) :
    F64.units x < (2 ^ 54 - 1) * 2 ^ 2044 := by
  have hround := F64.round_units hn Nat.one_pos
  have hinf := F64.isInf_round_iff (F64.sign x) (F64.units x * 1) Nat.one_pos
  rw [hround, hi, Nat.mul_one, Nat.mul_one] at hinf
  exact not_le.1 fun hle => absurd (hinf.2 hle) Bool.false_ne_true

/-! ### Integers of at most 53 bits, times a power of two -/

/-- A magnitude has p + 1 bits above the unit of its exponent. -/
theorem magUnits_lt (p mag : Nat) : magUnits p mag < 2 ^ (p + 1 + (mag / 2 ^ p - 1)) := by
  have hf : mag % 2 ^ p < 2 ^ p := Nat.mod_lt _ (Nat.two_pow_pos p)
  rw [magUnits, pow_add, pow_succ]
  split
  · next he =>
    rw [he]
    omega
  · exact Nat.mul_lt_mul_of_pos_right (by omega) (Nat.two_pow_pos _)

theorem two_pow_dvd_magUnits (p mag : Nat) : 2 ^ (mag / 2 ^ p - 1) ∣ magUnits p mag := by
  rw [magUnits]
  split
  · next he => simp [he]
  · exact Nat.dvd_mul_left ..

theorem F64.units_lt (x : Double) : F64.units x < 2 ^ (53 + (F64.expo x - 1)) := by
  rw [F64.units_eq, F64.expo_eq]
  exact magUnits_lt 52 _

theorem F64.two_pow_dvd_units (x : Double) : 2 ^ (F64.expo x - 1) ∣ F64.units x := by
  rw [F64.units_eq, F64.expo_eq]
  exact two_pow_dvd_magUnits 52 _

/-- A multiple of 2^k of at most 53 bits above it is rounded to itself. -/
theorem F64.units_round_of_dvd (s : Bool) {n k : Nat} (hdvd : 2 ^ k ∣ n) (hn : n ≤ 2 ^ (53 + k))
    (hfin : n < (2 ^ 54 - 1) * 2 ^ 2044) : F64.units (F64.round s n 1) = n := by
  have hinf : F64.isInf (F64.round s n 1) = false := by
    rw [Bool.eq_false_iff, Ne, F64.isInf_round_iff s n Nat.one_pos, Nat.mul_one]
    exact hfin.not_ge
  have hunit : 2 ^ roundExp 52 n 1 ∣ n := by
    obtain hlt | rfl := hn.lt_or_eq
    · exact (Nat.pow_dvd_pow 2 (roundExp_le Nat.one_pos (by simpa using hlt))).trans hdvd
    · have hexp : roundExp 52 (2 ^ (53 + k)) 1 ≤ k + 1 :=
        roundExp_le Nat.one_pos (by rw [Nat.mul_one]; exact Nat.pow_lt_pow_right Nat.one_lt_two (by omega))
      exact Nat.pow_dvd_pow 2 (hexp.trans (by omega))
  obtain ⟨m, hm⟩ := hunit
  have hsig : roundSig 52 n 1 = m := by
    rw [roundSig, Nat.one_mul]
    nth_rw 1 [hm]
    rw [Nat.mul_comm, rne_mul_self m (Nat.two_pow_pos _)]
  rw [F64.units_eq, F64.mag_round, magUnits_roundMag (by decide) Nat.one_pos (F64.roundMag_lt_infMag hinf), hsig,
    Nat.mul_comm, ← hm]

theorem F64.value_round (s : Bool) (n d : Nat) : F64.value (F64.round s n d) =
    if s then -(F64.units (F64.round s n d) : Int) else F64.units (F64.round s n d) := by
  rw [F64.value, F64.sign_round]

end Sys2Proof.Machine
end

section
/-! PROOFS. The IEEE remainder (spec R136): it has the lower exponent of the operands and no more bits than either, so
its rounding is exact. -/

namespace Sys2Proof.Machine

theorem natAbs_remUnits (x y : Nat) : (remUnits x y).natAbs = offBy x y (rne x y) := by
  rw [remUnits, offBy, Nat.cast_mul, Int.mul_comm, ← Int.natAbs_neg, neg_sub]

/-- The remainder exceeds neither operand: the quotient 0 lies no nearer. -/
theorem natAbs_remUnits_le (x : Nat) {y : Nat} (hy : 0 < y) : (remUnits x y).natAbs ≤ min x y := by
  have hhalf := (rne_within_half x hy).1
  have hzero : offBy x y (rne x y) ≤ offBy x y 0 := (rne_nearest x hy 0).1
  rw [show offBy x y 0 = x by simp [offBy]] at hzero
  rw [natAbs_remUnits]
  omega

theorem dvd_natAbs_remUnits {k x y : Nat} (hx : k ∣ x) (hy : k ∣ y) : k ∣ (remUnits x y).natAbs := by
  rw [← Int.natCast_dvd, remUnits]
  exact dvd_sub (Int.natCast_dvd_natCast.2 hx) (Dvd.dvd.mul_right (Int.natCast_dvd_natCast.2 hy) _)

theorem F64.units_round_remUnits (s : Bool) {x y : Double} (hn : F64.isNaN x = false) (hi : F64.isInf x = false)
    (hy : F64.isZero y = false) : F64.units (F64.round s (remUnits (F64.units x) (F64.units y)).natAbs 1) =
      (remUnits (F64.units x) (F64.units y)).natAbs := by
  have hle := natAbs_remUnits_le (F64.units x) (F64.units_pos hy)
  rw [le_min_iff] at hle
  have hx : 2 ^ min (F64.expo x - 1) (F64.expo y - 1) ∣ F64.units x :=
    (Nat.pow_dvd_pow 2 (Nat.min_le_left ..)).trans (F64.two_pow_dvd_units x)
  have hy : 2 ^ min (F64.expo x - 1) (F64.expo y - 1) ∣ F64.units y :=
    (Nat.pow_dvd_pow 2 (Nat.min_le_right ..)).trans (F64.two_pow_dvd_units y)
  refine F64.units_round_of_dvd s (dvd_natAbs_remUnits hx hy) ?_ (hle.1.trans_lt (F64.units_lt_of_finite hn hi))
  obtain h | h := Nat.le_total (F64.expo x - 1) (F64.expo y - 1)
  · rw [Nat.min_eq_left h]
    exact hle.1.trans (F64.units_lt x).le
  · rw [Nat.min_eq_right h]
    exact hle.2.trans (F64.units_lt y).le

/-- The result of `rem` of numbers, a zero with the sign of x. -/
def F64.remResult (x y : Double) : Double :=
  if remUnits (F64.units x) (F64.units y) = 0 then F64.zero (F64.sign x)
  else F64.round (F64.sign x != decide (remUnits (F64.units x) (F64.units y) < 0))
    (remUnits (F64.units x) (F64.units y)).natAbs 1

theorem F64.rem_of_finite {x y : Double} (hnx : F64.isNaN x = false) (hny : F64.isNaN y = false)
    (hix : F64.isInf x = false) (hiy : F64.isInf y = false) (hzy : F64.isZero y = false) :
    F64.rem x y = some (F64.remResult x y) := by
  rw [F64.remResult, apply_ite some]
  simp [F64.rem, hnx, hny, hix, hiy, hzy]

theorem F64.rem_of_inf {x y : Double} (hnx : F64.isNaN x = false) (hix : F64.isInf x = false)
    (hiy : F64.isInf y = true) : F64.rem x y = some x := by
  simp [F64.rem, hnx, hix, hiy, F64.isNaN_of_isInf hiy, F64.isZero_of_isInf hiy]

theorem F64.rem_eq_none_iff (x y : Double) : F64.rem x y = none ↔
    F64.isNaN x = true ∨ F64.isNaN y = true ∨ F64.isInf x = true ∨ F64.isZero y = true := by
  by_cases hnan : (F64.isNaN x || F64.isNaN y || F64.isInf x || F64.isZero y) = true
  · rw [F64.rem, if_pos hnan]
    simpa [or_assoc] using hnan
  · simp only [Bool.or_eq_true, not_or, Bool.not_eq_true] at hnan
    obtain ⟨⟨⟨hnx, hny⟩, hix⟩, hzy⟩ := hnan
    by_cases hiy : F64.isInf y = true
    · simp [F64.rem_of_inf hnx hix hiy, hnx, hny, hix, hzy]
    · simp [F64.rem_of_finite hnx hny hix (Bool.eq_false_iff.2 hiy) hzy, hnx, hny, hix, hzy]

/-- The value of the result is the exact remainder of the magnitudes, under the sign of x. -/
theorem F64.value_remResult {x y : Double} (hnx : F64.isNaN x = false) (hix : F64.isInf x = false)
    (hzy : F64.isZero y = false) : F64.value (F64.remResult x y) =
      if F64.sign x then -remUnits (F64.units x) (F64.units y) else remUnits (F64.units x) (F64.units y) := by
  unfold F64.remResult
  split
  · next h0 => rw [F64.value_of_isZero (F64.isZero_zero _), h0, Int.neg_zero, ite_self]
  · rw [F64.value_round, F64.units_round_remUnits _ hnx hix hzy]
    obtain h | h := lt_or_ge (remUnits (F64.units x) (F64.units y)) 0
    · have habs : ((remUnits (F64.units x) (F64.units y)).natAbs : Int) = -remUnits (F64.units x) (F64.units y) := by
        omega
      cases F64.sign x <;> simp [h, habs]
    · have habs : ((remUnits (F64.units x) (F64.units y)).natAbs : Int) = remUnits (F64.units x) (F64.units y) := by
        omega
      cases F64.sign x <;> simp [h.not_gt, habs]

theorem F64.isInf_remResult {x y : Double} (hnx : F64.isNaN x = false) (hix : F64.isInf x = false)
    (hzy : F64.isZero y = false) : F64.isInf (F64.remResult x y) = false := by
  unfold F64.remResult
  split
  · exact F64.isInf_of_isZero (F64.isZero_zero _)
  · have hle := (natAbs_remUnits_le (F64.units x) (F64.units_pos hzy)).trans (Nat.min_le_left ..)
    rw [Bool.eq_false_iff, Ne, F64.isInf_round_iff _ _ Nat.one_pos, Nat.mul_one]
    exact (hle.trans_lt (F64.units_lt_of_finite hnx hix)).not_ge

theorem F64.sign_remResult_of_zero {x y : Double} (h : remUnits (F64.units x) (F64.units y) = 0) :
    F64.sign (F64.remResult x y) = F64.sign x := by
  rw [F64.remResult, if_pos h, F64.sign_zero]

/-- The signed quotient of `rem`. -/
def F64.remQuotient (x y : Double) : Int :=
  if F64.sign x = F64.sign y then rne (F64.units x) (F64.units y) else -(rne (F64.units x) (F64.units y) : Int)

theorem F64.value_sub_mul_remQuotient (x y : Double) : F64.value x - F64.value y * F64.remQuotient x y =
    if F64.sign x then -remUnits (F64.units x) (F64.units y) else remUnits (F64.units x) (F64.units y) := by
  unfold F64.value F64.remQuotient remUnits
  cases F64.sign x <;> cases F64.sign y <;> simp <;> ring

theorem F64.remQuotient_mod_two {x y : Double} (h : rne (F64.units x) (F64.units y) % 2 = 0) :
    F64.remQuotient x y % 2 = 0 := by
  unfold F64.remQuotient
  split <;> omega

/-- Settles O55: the quotient is `rne` of the magnitudes under the operands' signs (`value_sub_mul_remQuotient`), and
the rounding of the remainder is exact (`units_round_remUnits`). -/
theorem remainderExact : Obligations.RemainderExact := by
  intro x y
  refine ⟨F64.rem_eq_none_iff x y, F64.rem_of_inf, fun hnx hny hix hiy hzy => ?_⟩
  have hvalue := F64.value_remResult hnx hix hzy
  have habs : (F64.value (F64.remResult x y)).natAbs = (remUnits (F64.units x) (F64.units y)).natAbs := by
    rw [hvalue]
    split
    · exact Int.natAbs_neg _
    · rfl
  obtain ⟨hhalf, heven⟩ := rne_within_half (F64.units x) (F64.units_pos hzy)
  rw [← natAbs_remUnits, ← habs] at hhalf heven
  refine ⟨F64.remResult x y, F64.remQuotient x y, F64.rem_of_finite hnx hny hix hiy hzy,
    F64.isInf_remResult hnx hix hzy, hvalue.trans (F64.value_sub_mul_remQuotient x y).symm, hhalf,
    fun htie => F64.remQuotient_mod_two (heven htie), fun h0 => F64.sign_remResult_of_zero ?_⟩
  rwa [← Int.natAbs_eq_zero, ← habs, Int.natAbs_eq_zero]

end Sys2Proof.Machine
end

section
/-! PROOFS. The special values of the transcendental functions under the reference choice (spec R139, R297). -/

namespace Sys2Proof.Machine

/-! The nearest doubles to the first four multiples of a quarter of pi. -/

theorem quarterPi_one (s : Bool) : quarterPi s 1 = F64.pack s 0x3FE921FB54442D18 := by
  cases s <;> decide +kernel
theorem quarterPi_two (s : Bool) : quarterPi s 2 = F64.pack s 0x3FF921FB54442D18 := by
  cases s <;> decide +kernel
theorem quarterPi_three (s : Bool) : quarterPi s 3 = F64.pack s 0x4002D97C7F3321D2 := by
  cases s <;> decide +kernel
theorem quarterPi_four (s : Bool) : quarterPi s 4 = F64.pack s 0x400921FB54442D18 := by
  cases s <;> decide +kernel

/-! ### Classes -/

theorem F64.isZero_of_isNaN {x : Double} (h : F64.isNaN x = true) : F64.isZero x = false := by
  by_contra hz
  simp [F64.isNaN_of_isZero (Bool.not_eq_false _ ▸ hz)] at h

theorem F64.isInf_of_isNaN {x : Double} (h : F64.isNaN x = true) : F64.isInf x = false := by
  by_contra hi
  simp [F64.isNaN_of_isInf (Bool.not_eq_false _ ▸ hi)] at h

theorem F64.sign_of_value_neg {x : Double} (h : F64.value x < 0) : F64.sign x = true := by
  by_contra hs
  rw [F64.value_of_nonneg (Bool.not_eq_true _ ▸ hs)] at h
  omega

theorem F64.isZero_of_value_neg {x : Double} (h : F64.value x < 0) : F64.isZero x = false :=
  Bool.eq_false_iff.2 fun hz => h.ne (F64.value_of_isZero hz)

/-! ### A NaN operand -/

theorem Tr.atan2_nan {x y : Double} (h : F64.isNaN y = true ∨ F64.isNaN x = true) :
    Tr.atan2 .reference y x = none := by
  rw [← Bool.or_eq_true] at h
  simp [Tr.atan2, h]

theorem Tr.nan {x : Double} (h : F64.isNaN x = true) :
    Tr.exp2m1 .reference x = none ∧ Tr.log2 .reference x = none ∧ Tr.log2p1 .reference x = none ∧
      Tr.tan .reference x = none := by
  simp [Tr.exp2m1, Tr.log2, Tr.log2p1, Tr.tan, h]

/-! ### The functions of one operand -/

theorem Tr.zero {x : Double} (h : F64.isZero x = true) :
    Tr.exp2m1 .reference x = some x ∧ Tr.log2 .reference x = some (F64.inf true) ∧
      Tr.log2p1 .reference x = some x ∧ Tr.tan .reference x = some x := by
  simp [Tr.exp2m1, Tr.log2, Tr.log2p1, Tr.tan, h, F64.isNaN_of_isZero h, F64.isInf_of_isZero h]

theorem Tr.log2_of_neg {x : Double} (hn : F64.isNaN x = false) (h : F64.value x < 0) :
    Tr.log2 .reference x = none := by
  simp [Tr.log2, hn, F64.isZero_of_value_neg h, F64.sign_of_value_neg h]

theorem Tr.log2p1_of_lt_neg_one {x : Double} (hn : F64.isNaN x = false) (h : F64.value x < -(F64.one : Int)) :
    Tr.log2p1 .reference x = none := by
  have hneg : F64.value x < 0 := by omega
  simp only [Tr.log2p1, hn, F64.isZero_of_value_neg hneg, h, h.ne, Bool.false_eq_true, if_true, if_false]

/-! ### atan2 -/

section
variable {x y : Double} (hx : F64.isNaN x = false)
include hx

theorem Tr.atan2_zero (hy : F64.isZero y = true) : Tr.atan2 .reference y x =
    some (if F64.sign x then F64.pack (F64.sign y) 0x400921FB54442D18 else F64.zero (F64.sign y)) := by
  simp [Tr.atan2, hx, hy, F64.isNaN_of_isZero hy, quarterPi_four]

theorem Tr.atan2_inf (hy : F64.isInf y = true) : Tr.atan2 .reference y x =
    some (if F64.isInf x then F64.pack (F64.sign y) (if F64.sign x then 0x4002D97C7F3321D2 else 0x3FE921FB54442D18)
      else F64.pack (F64.sign y) 0x3FF921FB54442D18) := by
  simp only [Tr.atan2, hx, hy, F64.isNaN_of_isInf hy, F64.isZero_of_isInf hy, quarterPi_one, quarterPi_two,
    quarterPi_three, apply_ite (F64.pack _), Bool.or_self, Bool.false_eq_true, if_true, if_false]

variable (hny : F64.isNaN y = false) (hiy : F64.isInf y = false) (hzy : F64.isZero y = false)
include hny hiy hzy

theorem Tr.atan2_of_inf_right (h : F64.isInf x = true) : Tr.atan2 .reference y x =
    some (if F64.sign x then F64.pack (F64.sign y) 0x400921FB54442D18 else F64.zero (F64.sign y)) := by
  simp [Tr.atan2, hx, hny, hiy, hzy, h, quarterPi_four]

theorem Tr.atan2_of_zero_right (h : F64.isZero x = true) :
    Tr.atan2 .reference y x = some (F64.pack (F64.sign y) 0x3FF921FB54442D18) := by
  simp [Tr.atan2, hx, hny, hiy, hzy, h, F64.isInf_of_isZero h, quarterPi_two]

end

/-- Settles O60: the operand's class selects the table's line; the infinities and +-1.0 are evaluated, and the multiples
of a quarter of pi with them (`quarterPi_one` and its kin). -/
theorem transcendentalSpecials : Obligations.TranscendentalSpecials := by
  intro x
  refine ⟨fun h => ?_, Tr.zero, by decide +kernel, by decide +kernel, by decide +kernel, by decide +kernel,
    by decide +kernel, by decide +kernel, fun h => by simp [Tr.tan, h], Tr.log2_of_neg, Tr.log2p1_of_lt_neg_one,
    fun hx y hny => ⟨Tr.atan2_zero hx, fun hiy hix => ?_, fun hiy hix => ?_,
      fun hiy hzy => Tr.atan2_of_inf_right hx hny hiy hzy, fun hiy hzy => Tr.atan2_of_zero_right hx hny hiy hzy⟩⟩
  · obtain ⟨hexp2m1, hlog2, hlog2p1, htan⟩ := Tr.nan h
    exact ⟨hexp2m1, hlog2, hlog2p1, htan, fun y => ⟨Tr.atan2_nan (.inl h), Tr.atan2_nan (.inr h)⟩⟩
  · rw [Tr.atan2_inf hx hiy, if_pos hix]
  · rw [Tr.atan2_inf hx hiy, hix, if_neg Bool.false_ne_true]

end Sys2Proof.Machine
end

section
/-! PROOFS. Integer reads and stores (spec R135, R150, R151). -/

namespace Sys2Proof.Machine

/-! ### The bits of an operand -/

theorem extractLsb'_extractLsb' {w i j m n : Nat} (b : BitVec w) (h : i + n ≤ m) :
    (b.extractLsb' j m).extractLsb' i n = b.extractLsb' (j + i) n := by
  apply BitVec.eq_of_getLsbD_eq
  intro k hk
  simp [hk, show i + k < m by omega, Nat.add_assoc]

theorem toNat_eq_extractLsb'_add {w : Nat} (b : BitVec w) :
    b.toNat = (b.extractLsb' 0 8).toNat + 256 * (b.extractLsb' 8 (w - 8)).toNat := by
  simp only [BitVec.extractLsb'_toNat, Nat.shiftRight_eq_div_pow]
  have hb := b.isLt
  have hlt : b.toNat / 2 ^ 8 < 2 ^ (w - 8) := by
    rw [Nat.div_lt_iff_lt_mul (by decide), ← Nat.pow_add]
    exact hb.trans_le (Nat.pow_le_pow_right two_pos (by omega))
  rw [Nat.mod_eq_of_lt hlt]
  omega

/-- A little-endian read of n bytes gives the number whose bytes they are (spec R65). -/
theorem State.readLE_of_bytes (s : State) (seg off : Word) {n w : Nat} (b : BitVec w) (hw : w = 8 * n)
    (h : ∀ k, k < n → b.extractLsb' (8 * k) 8 = s.read8 seg (off + BitVec.ofNat 16 k)) :
    s.readLE seg off n = b.toNat := by
  induction n generalizing off w with
  | zero =>
    subst hw
    have := b.isLt
    simp [State.readLE]
    omega
  | succ n ih =>
    have hhead := h 0 (Nat.succ_pos n)
    have htail : s.readLE seg (off + 1) n = (b.extractLsb' 8 (w - 8)).toNat := by
      refine ih (off + 1) _ (by omega) fun k hk => ?_
      have hbyte := h (k + 1) (by omega)
      rw [BitVec.ofNat_add, add_comm (BitVec.ofNat 16 k), ← add_assoc] at hbyte
      rw [show (1 : Word) = BitVec.ofNat 16 1 from rfl, ← hbyte, extractLsb'_extractLsb' b (by omega)]
      congr 1
      omega
    rw [Nat.mul_zero, show BitVec.ofNat 16 0 = 0#16 from rfl, BitVec.add_zero] at hhead
    rw [State.readLE, htail, ← hhead, ← toNat_eq_extractLsb'_add]

/-- `MemRead` of an operand gives its bits. -/
theorem State.ofNat_load {s : State} {m : MemOperand} {w : Nat} {b : BitVec w} (h : s.OperandBits m b) (n : Nat)
    (hw : w = 8 * n) : BitVec.ofNat w (s.load m n) = b := by
  rw [State.load, s.readLE_of_bytes _ _ b hw fun k hk => h k (by omega), BitVec.ofNat_toNat, BitVec.setWidth_eq]

/-! ### Integers as binary64 -/

theorem F64.one_eq : F64.one = 2 ^ 1074 := by decide +kernel

theorem F64.one_pos : 0 < F64.one := by
  rw [F64.one_eq]
  exact pow_pos two_pos _

/-- Integers up to 2^53 in magnitude are exact (spec R150). -/
theorem F64.units_ofInt {k : Int} (hk : k.natAbs ≤ 2 ^ 53) : F64.units (F64.ofInt k) = k.natAbs * F64.one := by
  have hle : k.natAbs * F64.one ≤ 2 ^ (53 + 1074) := by
    rw [pow_add, F64.one_eq]
    exact Nat.mul_le_mul_right _ hk
  have hdvd : 2 ^ 1074 ∣ k.natAbs * F64.one := by
    rw [F64.one_eq]
    exact Dvd.intro_left _ rfl
  exact F64.units_round_of_dvd _ hdvd hle (hle.trans_lt (by decide +kernel))

theorem F64.value_ofInt {k : Int} (hk : k.natAbs ≤ 2 ^ 53) : F64.value (F64.ofInt k) = k * (F64.one : Int) := by
  rw [F64.ofInt, F64.value_round, ← F64.ofInt, F64.units_ofInt hk, Nat.cast_mul]
  by_cases h : k < 0
  · rw [decide_eq_true h, if_pos rfl, Int.ofNat_natAbs_of_nonpos h.le, Int.neg_mul, Int.neg_neg]
  · rw [decide_eq_false h, if_neg Bool.false_ne_true, Int.natAbs_of_nonneg (not_lt.1 h)]

theorem F64.toInt_ofInt {k : Int} (hk : k.natAbs ≤ 2 ^ 53) : F64.toInt (F64.ofInt k) = k := by
  rw [F64.toInt, F64.units_ofInt hk, rne_mul_self _ F64.one_pos, F64.ofInt, F64.sign_round]
  by_cases h : k < 0
  · rw [decide_eq_true h, if_pos rfl, Int.ofNat_natAbs_of_nonpos h.le, Int.neg_neg]
  · rw [decide_eq_false h, if_neg Bool.false_ne_true, Int.natAbs_of_nonneg (not_lt.1 h)]

/-- `some (ofInt k)` is the value k, and +0.0 of zero. -/
theorem F64.ofInt_exact {k : Int} (hk : k.natAbs ≤ 2 ^ 53) :
    ∃ x, some (F64.ofInt k) = some x ∧ F64.value x = k * (F64.one : Int) ∧ (k = 0 → x = 0) :=
  ⟨_, rfl, F64.value_ofInt hk, fun h => by rw [h]; decide +kernel⟩

/-! ### Binary64 as integers -/

/-- How far a number lies from the integer it is rounded to is how far its magnitude does. -/
theorem F64.natAbs_value_sub_toInt (x : Double) : (F64.value x - F64.toInt x * (F64.one : Int)).natAbs =
    offBy (F64.units x) F64.one (rne (F64.units x) F64.one) := by
  rw [offBy, Nat.cast_mul, F64.toInt]
  cases h : F64.sign x
  · rw [F64.value_of_nonneg h, if_neg Bool.false_ne_true, ← Int.natAbs_neg, neg_sub]
  · rw [F64.value_of_neg h, if_pos rfl]
    congr 1
    ring

theorem F64.toInt_mod_two {x : Double} (h : rne (F64.units x) F64.one % 2 = 0) : F64.toInt x % 2 = 0 := by
  unfold F64.toInt
  split <;> omega

theorem doubleToInt_eq (n : Nat) (indefinite : BitVec n) (x : Double) : doubleToInt n indefinite x =
    if F64.isNaN x = false ∧ F64.isInf x = false ∧ -(2 ^ 63 : Int) ≤ F64.toInt x ∧ F64.toInt x < 2 ^ 63 then
      BitVec.ofInt n (F64.toInt x)
    else indefinite := by
  unfold doubleToInt
  cases F64.isNaN x
  · cases F64.isInf x <;> simp
  · simp

/-- Settles O58: a rounded integer lies within half a unit (`rne_within_half`), and an operand is the number whose
little-endian bytes it holds (`State.ofNat_load`). -/
theorem integerConversion : Obligations.IntegerConversion := by
  refine ⟨fun x _ _ => ?_, doubleToInt_eq, fun k hk => ⟨F64.value_ofInt hk, F64.toInt_ofInt hk⟩,
    fun s m k => ⟨fun b h hk => ?_, fun b h hk => ?_, fun b h hk => ?_⟩⟩
  · obtain ⟨hhalf, heven⟩ := rne_within_half (F64.units x) F64.one_pos
    rw [F64.natAbs_value_sub_toInt]
    exact ⟨hhalf, fun htie => F64.toInt_mod_two (heven htie)⟩
  · have hlt := b.toInt_lt
    have hle := b.le_toInt
    rw [State.readInt16, State.ofNat_load h 2 rfl, ← hk]
    exact F64.ofInt_exact (by omega)
  · have hlt := b.toInt_lt
    have hle := b.le_toInt
    rw [State.readInt32, State.ofNat_load h 4 rfl, ← hk]
    exact F64.ofInt_exact (by omega)
  · rw [State.readInt64, State.ofNat_load h 8 rfl, ← hk]
    exact ⟨rfl, F64.ofInt_exact⟩

end Sys2Proof.Machine
end

section
/-! PROOFS. The 32-bit format (spec R141, R142): a pattern is its sign and its magnitude, every finite value of the
format is a binary64 value, and a store rounds to the nearest of them. -/

namespace Sys2Proof.Machine

/-- The low 31 bits of a pattern: its exponent and fraction. -/
def singleMag (b : Single) : Nat := b.toNat % 2 ^ 31

/-- The low 31 bits of an infinity. -/
def singleInfMag : Nat := 255 * 2 ^ 23

theorem single_expo_eq (b : Single) : (b.extractLsb' 23 8).toNat = singleMag b / 2 ^ 23 := by
  simp only [singleMag, BitVec.extractLsb'_toNat, Nat.shiftRight_eq_div_pow]
  omega

theorem single_frac_eq (b : Single) : (b.extractLsb' 0 23).toNat = singleMag b % 2 ^ 23 := by
  simp only [singleMag, BitVec.extractLsb'_toNat, Nat.shiftRight_zero]
  omega

theorem single_eq_of_msb_of_mag {a b : Single} (hs : a.msb = b.msb) (hm : singleMag a = singleMag b) : a = b := by
  have ha := a.isLt
  have hb := b.isLt
  rw [BitVec.msb_eq_decide, BitVec.msb_eq_decide, decide_eq_decide] at hs
  unfold singleMag at hm
  exact BitVec.eq_of_toNat_eq (by omega)

/-! ### Reads -/

theorem singleToDouble_nan {b : Single} (h : singleInfMag < singleMag b) : singleToDouble b = none := by
  have hlt : singleMag b < 2 ^ 31 := Nat.mod_lt _ (by decide)
  unfold singleInfMag at h
  have he : singleMag b / 2 ^ 23 = 255 := by omega
  have hf : singleMag b % 2 ^ 23 ≠ 0 := by omega
  simp only [singleToDouble, single_expo_eq, single_frac_eq, he, hf, if_true, if_false]

theorem singleToDouble_inf {b : Single} (h : singleMag b = singleInfMag) :
    singleToDouble b = some (F64.inf b.msb) := by
  unfold singleInfMag at h
  have he : singleMag b / 2 ^ 23 = 255 := by omega
  have hf : singleMag b % 2 ^ 23 = 0 := by omega
  simp only [singleToDouble, single_expo_eq, single_frac_eq, he, hf, if_true]

/-- The read of a finite pattern, before its rounding, which is exact (`units_singleValue`). -/
def singleValue (b : Single) : Double := F64.round b.msb (magUnits 23 (singleMag b) * 2 ^ 925) 1

theorem singleToDouble_finite {b : Single} (h : singleMag b < singleInfMag) :
    singleToDouble b = some (singleValue b) := by
  have he : singleMag b / 2 ^ 23 ≠ 255 := by
    unfold singleInfMag at h
    omega
  simp only [singleToDouble, single_expo_eq, single_frac_eq, singleValue, magUnits, he, if_false]
  split <;> rfl

/-- The unit of the format, in units of 2^-1074. -/
theorem singleUnit_pos : 0 < 2 ^ 925 := by positivity

theorem singleUnits_lt {m : Nat} (h : m < singleInfMag) : magUnits 23 m * 2 ^ 925 < (2 ^ 54 - 1) * 2 ^ 2044 := by
  have hexp : m / 2 ^ 23 - 1 ≤ 253 := by
    unfold singleInfMag at h
    omega
  calc magUnits 23 m * 2 ^ 925
      < 2 ^ (23 + 1 + (m / 2 ^ 23 - 1)) * 2 ^ 925 := Nat.mul_lt_mul_of_pos_right (magUnits_lt 23 m) singleUnit_pos
    _ ≤ 2 ^ (23 + 1 + 253) * 2 ^ 925 := Nat.mul_le_mul_right _ (Nat.pow_le_pow_right two_pos (by omega))
    _ < (2 ^ 54 - 1) * 2 ^ 2044 := by decide +kernel

theorem units_singleValue {b : Single} (h : singleMag b < singleInfMag) :
    F64.units (singleValue b) = magUnits 23 (singleMag b) * 2 ^ 925 := by
  have hdvd : 2 ^ (singleMag b / 2 ^ 23 - 1 + 925) ∣ magUnits 23 (singleMag b) * 2 ^ 925 := by
    rw [pow_add]
    exact Nat.mul_dvd_mul_right (two_pow_dvd_magUnits 23 _) _
  have hle : magUnits 23 (singleMag b) * 2 ^ 925 ≤ 2 ^ (53 + (singleMag b / 2 ^ 23 - 1 + 925)) := by
    rw [← Nat.add_assoc, pow_add 2 (53 + (singleMag b / 2 ^ 23 - 1))]
    exact Nat.mul_le_mul_right _ ((magUnits_lt 23 _).le.trans (Nat.pow_le_pow_right two_pos (by omega)))
  exact F64.units_round_of_dvd _ hdvd hle (singleUnits_lt h)

theorem isNaN_singleValue (b : Single) : F64.isNaN (singleValue b) = false := F64.isNaN_round ..

theorem sign_singleValue (b : Single) : F64.sign (singleValue b) = b.msb := F64.sign_round ..

theorem isInf_singleValue {b : Single} (h : singleMag b < singleInfMag) : F64.isInf (singleValue b) = false := by
  rw [Bool.eq_false_iff, Ne, singleValue, F64.isInf_round_iff _ _ Nat.one_pos, Nat.mul_one]
  exact (singleUnits_lt h).not_ge

/-- A number read is an infinity, or the finite value of the pattern. -/
theorem singleToDouble_cases {b : Single} {x : Double} (h : singleToDouble b = some x) :
    (singleMag b = singleInfMag ∧ x = F64.inf b.msb) ∨ (singleMag b < singleInfMag ∧ x = singleValue b) := by
  obtain hlt | heq | hgt := lt_trichotomy (singleMag b) singleInfMag
  · rw [singleToDouble_finite hlt, Option.some_inj] at h
    exact .inr ⟨hlt, h.symm⟩
  · rw [singleToDouble_inf heq, Option.some_inj] at h
    exact .inl ⟨heq, h.symm⟩
  · simp [singleToDouble_nan hgt] at h

/-! ### Stores -/

/-- The magnitude a store writes. -/
def singleStoreMag (x : Double) : Nat :=
  if F64.isInf x then singleInfMag else roundMag 23 singleInfMag (F64.units x) (2 ^ 925)

theorem singleStoreMag_le (x : Double) : singleStoreMag x ≤ singleInfMag := by
  unfold singleStoreMag
  split
  · exact le_rfl
  · exact roundMag_le ..

theorem toNat_doubleToSingle (x : Double) :
    (doubleToSingle x).toNat = (F64.sign x).toNat * 2 ^ 31 + singleStoreMag x := by
  have hlt : singleStoreMag x < 2 ^ 31 := (singleStoreMag_le x).trans_lt (by decide)
  have h : (doubleToSingle x).toNat =
      (BitVec.ofBool (F64.sign x)).toNat <<< 31 ||| (BitVec.ofNat 31 (singleStoreMag x)).toNat := BitVec.toNat_append ..
  rw [h, ← Nat.shiftLeft_add_eq_or_of_lt (BitVec.isLt _), Nat.shiftLeft_eq, BitVec.toNat_ofBool, BitVec.toNat_ofNat,
    Nat.mod_eq_of_lt hlt]

theorem singleMag_doubleToSingle (x : Double) : singleMag (doubleToSingle x) = singleStoreMag x := by
  have hlt : singleStoreMag x < 2 ^ 31 := (singleStoreMag_le x).trans_lt (by decide)
  rw [singleMag, toNat_doubleToSingle]
  omega

theorem msb_doubleToSingle (x : Double) : (doubleToSingle x).msb = F64.sign x := by
  have hlt : singleStoreMag x < 2 ^ 31 := (singleStoreMag_le x).trans_lt (by decide)
  rw [BitVec.msb_eq_decide, toNat_doubleToSingle]
  cases F64.sign x with
  | false => simpa using hlt
  | true => simp

/-- Every 32-bit number is written as it was read (spec R141, R142). -/
theorem doubleToSingle_singleToDouble {b : Single} {x : Double} (h : singleToDouble b = some x) :
    doubleToSingle x = b := by
  obtain ⟨hmag, rfl⟩ | ⟨hmag, rfl⟩ := singleToDouble_cases h
  · refine single_eq_of_msb_of_mag (by rw [msb_doubleToSingle, F64.sign_inf]) ?_
    rw [singleMag_doubleToSingle, singleStoreMag, if_pos (F64.isInf_inf _), hmag]
  · refine single_eq_of_msb_of_mag (by rw [msb_doubleToSingle, sign_singleValue]) ?_
    rw [singleMag_doubleToSingle, singleStoreMag, isInf_singleValue hmag, if_neg Bool.false_ne_true,
      units_singleValue hmag, roundMag_magUnits singleUnit_pos hmag.le]

/-! ### Rounding to 32 bits -/

/-- Nearness of magnitudes is nearness of values of one sign; a value of the other sign lies no nearer than zero. -/
theorem F64.nearest_of_units {r x w : Double} {even : Prop} (hs : F64.sign r = F64.sign x)
    (hnear : ((F64.units r : Int) - F64.units x).natAbs ≤ ((F64.units w : Int) - F64.units x).natAbs ∧
      (((F64.units r : Int) - F64.units x).natAbs = ((F64.units w : Int) - F64.units x).natAbs →
        F64.units w ≠ F64.units r → even))
    (hzero : ((F64.units r : Int) - F64.units x).natAbs ≤ F64.units x ∧
      (((F64.units r : Int) - F64.units x).natAbs = F64.units x → F64.units r ≠ 0 → even)) :
    (F64.value r - F64.value x).natAbs ≤ (F64.value w - F64.value x).natAbs ∧
      ((F64.value r - F64.value x).natAbs = (F64.value w - F64.value x).natAbs → F64.value w ≠ F64.value r →
        even) := by
  obtain ⟨hle, htie⟩ := hnear
  obtain ⟨hle0, htie0⟩ := hzero
  have hr : (F64.value r - F64.value x).natAbs = ((F64.units r : Int) - F64.units x).natAbs := by
    rw [F64.value, F64.value, hs]
    split <;> omega
  rw [hr]
  by_cases hw : F64.sign w = F64.sign x
  · have hwx : (F64.value w - F64.value x).natAbs = ((F64.units w : Int) - F64.units x).natAbs := by
      rw [F64.value, F64.value, hw]
      split <;> omega
    rw [hwx]
    refine ⟨hle, fun heq hne => htie heq fun hu => hne ?_⟩
    rw [F64.value, F64.value, hw, hs, hu]
  · have hwx : (F64.value w - F64.value x).natAbs = F64.units w + F64.units x := by
      rw [F64.value, F64.value, Bool.eq_not.2 hw]
      cases F64.sign x <;> simp <;> omega
    rw [hwx]
    refine ⟨by omega, fun heq hne => ?_⟩
    by_cases hr0 : F64.units r = 0
    · have hw0 : F64.units w = 0 := by omega
      rw [F64.units_eq_zero_iff] at hr0 hw0
      exact absurd ((F64.value_of_isZero hw0).trans (F64.value_of_isZero hr0).symm) hne
    · exact htie0 (by omega) hr0

theorem singleStoreMag_eq_infMag_iff {x : Double} (hi : F64.isInf x = false) :
    singleStoreMag x = singleInfMag ↔ (2 ^ 25 - 1) * 2 ^ 103 * F64.one ≤ F64.units x := by
  have hlimit : (2 ^ (23 + 2) - 1) * 2 ^ 252 * 2 ^ 925 = (2 ^ 25 - 1) * 2 ^ 103 * F64.one := by decide +kernel
  have hinf := roundMag_eq_infMag_iff (p := 23) (c := 252) (n := F64.units x) (by decide) singleUnit_pos
  rw [show (252 + 3) * 2 ^ 23 = singleInfMag from rfl] at hinf
  rw [singleStoreMag, hi, if_neg Bool.false_ne_true, ← hlimit]
  exact hinf

/-- Of the magnitudes of the format none lies nearer than a finite one that is stored. -/
theorem singleStoreMag_nearest {x : Double} (hi : F64.isInf x = false) (hfin : singleStoreMag x < singleInfMag)
    (mag : Nat) :
    (((magUnits 23 (singleStoreMag x) * 2 ^ 925 : Nat) : Int) - F64.units x).natAbs ≤
        (((magUnits 23 mag * 2 ^ 925 : Nat) : Int) - F64.units x).natAbs ∧
      ((((magUnits 23 (singleStoreMag x) * 2 ^ 925 : Nat) : Int) - F64.units x).natAbs =
          (((magUnits 23 mag * 2 ^ 925 : Nat) : Int) - F64.units x).natAbs →
        magUnits 23 mag * 2 ^ 925 ≠ magUnits 23 (singleStoreMag x) * 2 ^ 925 → singleStoreMag x % 2 = 0) := by
  have hmag : singleStoreMag x = roundMag 23 singleInfMag (F64.units x) (2 ^ 925) := by
    rw [singleStoreMag, hi, if_neg Bool.false_ne_true]
  rw [hmag] at hfin ⊢
  obtain ⟨hle, htie⟩ := roundMag_nearest (by decide) singleUnit_pos hfin mag
  exact ⟨hle, fun heq hne => htie heq fun hu => hne (by rw [hu])⟩

/-- Settles O57: `roundMag` is nearest among the magnitudes of the format (`singleStoreMag_nearest`), and the signs
follow (`F64.nearest_of_units`). -/
theorem singleRounding : Obligations.SingleRounding := by
  intro x _ hi
  have hmag := singleMag_doubleToSingle x
  obtain heq | hlt := (singleStoreMag_le x).eq_or_lt
  · refine ⟨_, singleToDouble_inf (hmag.trans heq), by rw [F64.sign_inf, msb_doubleToSingle], ?_, fun hfin => ?_⟩
    · simp only [F64.isInf_inf, (singleStoreMag_eq_infMag_iff hi).1 heq]
    · simp [F64.isInf_inf] at hfin
  · have hfin : singleMag (doubleToSingle x) < singleInfMag := hmag.trans_lt hlt
    have hsign : F64.sign (singleValue (doubleToSingle x)) = F64.sign x := by
      rw [sign_singleValue, msb_doubleToSingle]
    have hunits : F64.units (singleValue (doubleToSingle x)) = magUnits 23 (singleStoreMag x) * 2 ^ 925 := by
      rw [units_singleValue hfin, hmag]
    refine ⟨_, singleToDouble_finite hfin, hsign, ?_, fun _ y w hy hw => ?_⟩
    · simp only [isInf_singleValue hfin, Bool.false_eq_true, false_iff, ← singleStoreMag_eq_infMag_iff hi]
      exact hlt.ne
    · have heven : singleStoreMag x % 2 = 0 → (doubleToSingle x).getLsbD 0 = false := fun h => by
        rw [BitVec.getLsbD, toNat_doubleToSingle, Nat.testBit_zero, decide_eq_false_iff_not]
        omega
      have hwunits : ∃ mag, F64.units w = magUnits 23 mag * 2 ^ 925 := by
        obtain ⟨-, rfl⟩ | ⟨hymag, rfl⟩ := singleToDouble_cases hy
        · simp [F64.isInf_inf] at hw
        · exact ⟨_, units_singleValue hymag⟩
      obtain ⟨mag, hwunits⟩ := hwunits
      obtain ⟨hle, htie⟩ := singleStoreMag_nearest hi hlt mag
      obtain ⟨hle0, htie0⟩ := singleStoreMag_nearest hi hlt 0
      rw [← hunits, ← hwunits] at hle htie
      rw [← hunits, (magUnits_eq_zero_iff 23 0).2 rfl, Nat.zero_mul, Nat.cast_zero, zero_sub, Int.natAbs_neg,
        Int.natAbs_natCast] at hle0 htie0
      exact F64.nearest_of_units hsign ⟨hle, fun h hne => heven (htie h hne)⟩
        ⟨hle0, fun h hne => heven (htie0 h hne.symm)⟩

end Sys2Proof.Machine
end

section
/-! PROOFS. The 80-bit format (spec R145 to R149): the cases of a read, the pattern of each class a store writes, and
what a store leaves for a load. -/

namespace Sys2Proof.Machine

/-! ### Reads -/

theorem F64.round_mul_two_pow_sub (s : Bool) (m : Nat) {e k : Nat} (h : k ≤ e) :
    F64.round s (m * 2 ^ (e - k)) 1 = F64.round s (m * 2 ^ e) (2 ^ k) := by
  rw [← F64.round_mul_right s _ 1 (Nat.two_pow_pos k), Nat.one_mul, Nat.mul_assoc, ← Nat.pow_add, Nat.sub_add_cancel h]

theorem F64.round_two_pow_sub (s : Bool) (m : Nat) {e k : Nat} (h : e ≤ k) :
    F64.round s m (2 ^ (k - e)) = F64.round s (m * 2 ^ e) (2 ^ k) := by
  rw [← F64.round_mul_right s m _ (Nat.two_pow_pos e), ← Nat.pow_add, Nat.sub_add_cancel h]

/-- The formula, as one quotient (spec R146 case 4). -/
theorem extendedReference_eq (s : Bool) (e : BitVec 15) (m : BitVec 64) :
    extendedReference s e m = F64.round s (m.toNat * 2 ^ e.toNat) (2 ^ 15372) := by
  unfold extendedReference
  split
  · next h => exact F64.round_mul_two_pow_sub s _ h
  · next h => exact F64.round_two_pow_sub s _ (not_le.1 h).le

/-- The edge band by the scaled magnitude (spec R147). -/
theorem extendedEdge_iff (e : BitVec 15) (m : BitVec 64) : extendedEdge e m = true ↔
    (m ≠ 0 ∧ (e.toNat < 15372 ∨ m.toNat * 2 ^ e.toNat < 2 ^ 52 * 2 ^ 15372)) ∨ (m = 0 ∧ 17470 ≤ e.toNat) := by
  unfold extendedEdge
  by_cases hm : m = 0
  · simp only [hm, if_true, decide_eq_true_eq, ne_eq, not_true_eq_false, false_and, true_and, false_or]
  · rw [if_neg hm, Bool.or_eq_true, decide_eq_true_eq, decide_eq_true_eq]
    simp only [ne_eq, hm, not_false_eq_true, true_and, false_and, or_false]
    refine or_congr_right' fun he => ?_
    rw [← Nat.mul_lt_mul_right (a := 2 ^ 15372) (by positivity), Nat.mul_assoc, ← pow_add,
      Nat.sub_add_cancel (not_lt.1 he)]

section
variable {c : Choice} {b : Extended}

theorem extendedToDouble_zero (h : b.extractLsb' 64 15 = 0 ∧ b.extractLsb' 0 64 = 0) :
    extendedToDouble c b = some (F64.zero b.msb) := if_pos h

theorem extendedToDouble_of_max_exponent (h : b.extractLsb' 64 15 = 0x7FFF) : extendedToDouble c b =
    if (b.extractLsb' 0 64).extractLsb' 0 63 = 0 then some (F64.inf b.msb) else none :=
  (if_neg (by simp [h])).trans (if_pos h)

variable (hz : ¬ (b.extractLsb' 64 15 = 0 ∧ b.extractLsb' 0 64 = 0)) (he : b.extractLsb' 64 15 ≠ 0x7FFF)
include hz he

theorem extendedToDouble_of_finite
    (h : c = .reference ∨ ¬ extendedEdge (b.extractLsb' 64 15) (b.extractLsb' 0 64) = true) : extendedToDouble c b =
      some (F64.round b.msb ((b.extractLsb' 0 64).toNat * 2 ^ (b.extractLsb' 64 15).toNat) (2 ^ 15372)) := by
  rw [extendedToDouble.eq_def, if_neg hz, if_neg he, ← extendedReference_eq]
  obtain rfl | hband := h
  · exact ite_self _
  · rw [if_neg hband]

theorem extendedToDouble_unknown_of_edge
    (h : extendedEdge (b.extractLsb' 64 15) (b.extractLsb' 0 64) = true) : extendedToDouble .unknown b =
      ofParameter (Config.f80EdgeDecode b.msb (b.extractLsb' 64 15) (b.extractLsb' 0 64)) := by
  rw [extendedToDouble.eq_def, if_neg hz, if_neg he, if_pos h]

end

/-! ### The fields of a pattern -/

@[simp] theorem msb_packExtended (s : Bool) (e m : Nat) : (packExtended s e m).msb = s := by
  rw [packExtended, BitVec.msb_append, if_neg (by decide), BitVec.msb_append, if_neg (by decide), BitVec.msb_ofBool]

theorem significand_packExtended (s : Bool) (e : Nat) {m : Nat} (hm : m < 2 ^ 64) :
    ((packExtended s e m).extractLsb' 0 64).toNat = m := by
  rw [packExtended, BitVec.extractLsb'_append_eq_right, BitVec.toNat_ofNat, Nat.mod_eq_of_lt hm]

theorem exponent_packExtended (s : Bool) {e : Nat} (m : Nat) (he : e < 2 ^ 15) :
    ((packExtended s e m).extractLsb' 64 15).toNat = e := by
  rw [packExtended, BitVec.extractLsb'_append_eq_of_le le_rfl, Nat.sub_self, BitVec.extractLsb'_append_eq_right,
    BitVec.toNat_ofNat, Nat.mod_eq_of_lt he]

/-- A pattern of the formula's exponents and a nonzero significand is read by the formula (spec R146). -/
theorem extendedToDouble_packExtended (s : Bool) {e m : Nat} (he : e < 0x7FFF) (hm : m < 2 ^ 64) (hm0 : m ≠ 0) :
    extendedToDouble .reference (packExtended s e m) = some (F64.round s (m * 2 ^ e) (2 ^ 15372)) := by
  have hsig := significand_packExtended s e hm
  have hexp := exponent_packExtended s m (he.trans (by decide))
  have hz : ¬ ((packExtended s e m).extractLsb' 64 15 = 0 ∧ (packExtended s e m).extractLsb' 0 64 = 0) := by
    rintro ⟨-, h⟩
    rw [h] at hsig
    exact hm0 hsig.symm
  have hmax : (packExtended s e m).extractLsb' 64 15 ≠ 0x7FFF := by
    intro h
    rw [h] at hexp
    exact he.ne hexp.symm
  rw [extendedToDouble_of_finite hz hmax (.inl rfl), msb_packExtended, hsig, hexp]

theorem low63_significand (v : Extended) : (v.extractLsb' 0 64).toNat % 2 ^ 63 = (v.extractLsb' 0 63).toNat := by
  simp only [BitVec.extractLsb'_toNat, Nat.shiftRight_zero]
  omega

theorem exponent_toNaN80 (v : Extended) : (toNaN80 v).extractLsb' 64 15 = 0x7FFF := by
  unfold toNaN80
  split
  · next h => exact h.1
  · rw [BitVec.extractLsb'_or,
      show (0x7FFFC000000000000000 : Extended).extractLsb' 64 15 = BitVec.allOnes 15 by decide, BitVec.or_allOnes]
    decide

theorem fraction_toNaN80 (v : Extended) : (toNaN80 v).extractLsb' 0 63 ≠ 0 := by
  unfold toNaN80
  split
  · next h => exact h.2
  · rw [BitVec.extractLsb'_or]
    intro h
    exact absurd (BitVec.or_eq_zero_iff.1 h).2 (by decide)

/-! ### Stores -/

theorem F64.frac_lt (x : Double) : F64.frac x < 2 ^ 52 := BitVec.isLt _

theorem F64.isSubnormal_iff (x : Double) : F64.isSubnormal x = true ↔ F64.expo x = 0 ∧ F64.frac x ≠ 0 := by
  rw [F64.isSubnormal, Bool.and_eq_true, beq_iff_eq, bne_iff_ne]

/-- The classes of a pattern, by its exponent. -/
theorem F64.class_cases (x : Double) : F64.isNaN x = true ∨ F64.isInf x = true ∨ F64.isZero x = true ∨
    F64.isSubnormal x = true ∨ (1 ≤ F64.expo x ∧ F64.expo x ≤ 2046) := by
  have he : F64.expo x < 2 ^ 11 := BitVec.isLt _
  simp only [F64.isNaN, F64.isInf, F64.isZero, F64.isSubnormal, Bool.and_eq_true, beq_iff_eq, bne_iff_ne]
  omega

section
variable {x : Double} (p : Params)

theorem doubleToExtended_inf (h : F64.isInf x = true) :
    doubleToExtended p x = packExtended (F64.sign x) 0x7FFF (2 ^ 63) := by
  simp only [doubleToExtended, F64.isNaN_of_isInf h, h, Bool.false_eq_true, if_false, if_true]

theorem doubleToExtended_zero (h : F64.isZero x = true) :
    doubleToExtended p x = packExtended (F64.sign x) 0 0 := by
  simp only [doubleToExtended, F64.isNaN_of_isZero h, F64.isInf_of_isZero h, h, Bool.false_eq_true, if_false, if_true]

theorem doubleToExtended_normal (hlo : 1 ≤ F64.expo x) (hhi : F64.expo x ≤ 2046) :
    doubleToExtended p x = packExtended (F64.sign x) (F64.expo x + 15360) (2 ^ 63 + F64.frac x * 2 ^ 11) := by
  have h0 : (F64.expo x == 0) = false := beq_eq_false_iff_ne.2 (by omega)
  have h2047 : (F64.expo x == 2047) = false := beq_eq_false_iff_ne.2 (by omega)
  simp only [doubleToExtended, F64.isNaN, F64.isInf, F64.isZero, F64.isSubnormal, h0, h2047, Bool.false_and,
    Bool.false_eq_true, if_false]

variable {p}

theorem doubleToExtended_nan_reference (h : F64.isNaN x = true) (hp : p.nan80 = .reference) :
    doubleToExtended p x = packExtended (F64.sign x) 0x7FFF (2 ^ 63 + F64.frac x * 2 ^ 11) := by
  simp only [doubleToExtended, h, hp, if_true]

theorem doubleToExtended_nan_unknown (h : F64.isNaN x = true) (hp : p.nan80 = .unknown) :
    doubleToExtended p x = toNaN80 (Config.nan80 x) := by
  simp only [doubleToExtended, h, hp, if_true]

theorem doubleToExtended_normalized (h : F64.isSubnormal x = true) (hp : p.f80SubnormalEnc = .normalized) :
    doubleToExtended p x = packExtended (F64.sign x) (Nat.log2 (F64.frac x) + 15309)
      (F64.frac x * 2 ^ (63 - Nat.log2 (F64.frac x))) := by
  obtain ⟨he, hf⟩ := (F64.isSubnormal_iff x).1 h
  simp [doubleToExtended, F64.isNaN, F64.isInf, F64.isZero, h, he, hf, hp]

theorem doubleToExtended_literal (h : F64.isSubnormal x = true) (hp : p.f80SubnormalEnc = .literal) :
    doubleToExtended p x = packExtended (F64.sign x) 15360 (F64.frac x * 2 ^ 11) := by
  obtain ⟨he, hf⟩ := (F64.isSubnormal_iff x).1 h
  simp [doubleToExtended, F64.isNaN, F64.isInf, F64.isZero, h, he, hf, hp]

end

theorem extended_normal_lt (x : Double) : 2 ^ 63 + F64.frac x * 2 ^ 11 < 2 ^ 64 := by
  have hf := F64.frac_lt x
  omega

/-- The significand of a subnormal, shifted until its highest bit is bit 63. -/
theorem extended_normalized_lt {f : Nat} (hf : f < 2 ^ 52) : f * 2 ^ (63 - Nat.log2 f) < 2 ^ 64 := by
  obtain rfl | h0 := Nat.eq_zero_or_pos f
  · simp
  · have hlog : Nat.log2 f < 52 := (Nat.log2_lt h0.ne').2 hf
    calc f * 2 ^ (63 - Nat.log2 f)
        < 2 ^ (Nat.log2 f + 1) * 2 ^ (63 - Nat.log2 f) :=
          Nat.mul_lt_mul_of_pos_right Nat.lt_log2_self (Nat.two_pow_pos _)
      _ = 2 ^ 64 := by
        rw [← Nat.pow_add]
        congr 1
        omega

/-- The sign bit a store writes is that of the number, and of a NaN under the reference pattern (spec R148, R149). -/
theorem msb_doubleToExtended {p : Params} {x : Double} (h : F64.isNaN x = false ∨ p.nan80 = .reference) :
    (doubleToExtended p x).msb = F64.sign x := by
  obtain hnan | hinf | hzero | hsub | ⟨hlo, hhi⟩ := F64.class_cases x
  · rw [doubleToExtended_nan_reference hnan (h.resolve_left (by simp [hnan])), msb_packExtended]
  · rw [doubleToExtended_inf p hinf, msb_packExtended]
  · rw [doubleToExtended_zero p hzero, msb_packExtended]
  · cases hp : p.f80SubnormalEnc
    · rw [doubleToExtended_normalized hsub hp, msb_packExtended]
    · rw [doubleToExtended_literal hsub hp, msb_packExtended]
  · rw [doubleToExtended_normal p hlo hhi, msb_packExtended]

/-- The exponent and the significand of a pattern, as a store states them. -/
def ExtendedFields (w : Extended) (e m : Nat) : Prop :=
  (w.extractLsb' 64 15).toNat = e ∧ (w.extractLsb' 0 64).toNat = m

theorem extendedFields_packExtended (s : Bool) {e m : Nat} (he : e < 2 ^ 15) (hm : m < 2 ^ 64) :
    ExtendedFields (packExtended s e m) e m :=
  ⟨exponent_packExtended s m he, significand_packExtended s e hm⟩

theorem isNaN_doubleToExtended (p : Params) {x : Double} (h : F64.isNaN x = true) :
    ((doubleToExtended p x).extractLsb' 64 15).toNat = 0x7FFF ∧
      ((doubleToExtended p x).extractLsb' 0 64).toNat % 2 ^ 63 ≠ 0 := by
  cases hp : p.nan80 with
  | reference =>
    obtain ⟨he, hm⟩ := extendedFields_packExtended (F64.sign x) (show 0x7FFF < 2 ^ 15 by decide) (extended_normal_lt x)
    rw [doubleToExtended_nan_reference h hp, he, hm]
    have hlt := F64.frac_lt x
    have hf : F64.frac x ≠ 0 := by
      rw [F64.isNaN, Bool.and_eq_true, bne_iff_ne] at h
      exact h.2
    exact ⟨rfl, by omega⟩
  | unknown =>
    rw [doubleToExtended_nan_unknown h hp, exponent_toNaN80, low63_significand]
    exact ⟨rfl, fun h0 => fraction_toNaN80 _ (BitVec.eq_of_toNat_eq h0)⟩

/-! ### A store and a load -/

/-- The significand of a normal number times its power of two is its magnitude, 2^15372 being the formula's scale. -/
theorem F64.normal_mul_two_pow {x : Double} (h : 1 ≤ F64.expo x) :
    (2 ^ 63 + F64.frac x * 2 ^ 11) * 2 ^ (F64.expo x + 15360) = F64.units x * 2 ^ 15372 := by
  have hsig : 2 ^ 63 + F64.frac x * 2 ^ 11 = (2 ^ 52 + F64.frac x) * 2 ^ 11 := by omega
  have hexp : 11 + (F64.expo x + 15360) = F64.expo x - 1 + 15372 := by omega
  rw [F64.units, if_neg (by omega), hsig, mul_assoc, mul_assoc, ← pow_add, ← pow_add, hexp]

theorem F64.units_of_isSubnormal {x : Double} (h : F64.isSubnormal x = true) : F64.units x = F64.frac x := by
  rw [F64.units, if_pos ((F64.isSubnormal_iff x).1 h).1]

theorem normalized_mul_two_pow {f : Nat} (hf : Nat.log2 f ≤ 63) :
    f * 2 ^ (63 - Nat.log2 f) * 2 ^ (Nat.log2 f + 15309) = f * 2 ^ 15372 := by
  have hexp : 63 - Nat.log2 f + (Nat.log2 f + 15309) = 15372 := by omega
  rw [mul_assoc, ← pow_add, hexp]

/-- A number is read back as it was written, subnormals being normalized (spec R145 to R149). -/
theorem extendedToDouble_doubleToExtended {p : Params} {x : Double} (hn : F64.isNaN x = false)
    (hp : p.f80SubnormalEnc = .normalized) : extendedToDouble .reference (doubleToExtended p x) = some x := by
  have hscale : F64.round (F64.sign x) (F64.units x * 2 ^ 15372) (2 ^ 15372) = x :=
    F64.round_units hn (by positivity)
  have hlt := F64.frac_lt x
  obtain hnan | hinf | hzero | hsub | ⟨hlo, hhi⟩ := F64.class_cases x
  · simp [hnan] at hn
  · rw [F64.eq_inf hinf, doubleToExtended_inf p (F64.isInf_inf _), F64.sign_inf]
    cases F64.sign x <;> decide +kernel
  · rw [F64.eq_zero hzero, doubleToExtended_zero p (F64.isZero_zero _), F64.sign_zero]
    cases F64.sign x <;> decide +kernel
  · obtain ⟨-, hf⟩ := (F64.isSubnormal_iff x).1 hsub
    have hlog : Nat.log2 (F64.frac x) < 52 := (Nat.log2_lt hf).2 hlt
    rw [doubleToExtended_normalized hsub hp,
      extendedToDouble_packExtended _ (by omega) (extended_normalized_lt hlt) (by positivity),
      normalized_mul_two_pow (by omega), ← F64.units_of_isSubnormal hsub, hscale]
  · rw [doubleToExtended_normal p hlo hhi, extendedToDouble_packExtended _ (by omega) (extended_normal_lt x) (by omega),
      F64.normal_mul_two_pow hlo, hscale]

/-- A literal subnormal reads back as half its value, rounded (spec R149). -/
theorem extendedToDouble_literal {p : Params} {x : Double} (h : F64.isSubnormal x = true)
    (hp : p.f80SubnormalEnc = .literal) :
    extendedToDouble .reference (doubleToExtended p x) = some (F64.round (F64.sign x) (F64.units x) 2) := by
  have hlt := F64.frac_lt x
  obtain ⟨-, hf⟩ := (F64.isSubnormal_iff x).1 h
  have hscale (k : Nat) : F64.round (F64.sign x) (F64.units x * 2 ^ k) (2 ^ (k + 1)) =
      F64.round (F64.sign x) (F64.units x) 2 := by
    rw [Nat.pow_succ', F64.round_mul_right _ _ _ (Nat.two_pow_pos k)]
  rw [doubleToExtended_literal h hp, extendedToDouble_packExtended _ (by omega) (by omega) (by omega), mul_assoc,
    ← pow_add, ← F64.units_of_isSubnormal h, show 11 + 15360 = 15371 from rfl, show 15372 = 15371 + 1 from rfl, hscale]

/-! ### The codecs -/

theorem doubleRead_eq (x : Double) :
    (F64.isNaN x = false → doubleRead x = some x) ∧ (F64.isNaN x = true → doubleRead x = none) :=
  ⟨fun h => by rw [doubleRead, h, if_neg Bool.false_ne_true], fun h => by rw [doubleRead, if_pos h]⟩

theorem singleToDouble_nan_fields {b : Single} (he : (b.extractLsb' 23 8).toNat = 255)
    (hf : (b.extractLsb' 0 23).toNat ≠ 0) : singleToDouble b = none := by
  rw [single_expo_eq] at he
  rw [single_frac_eq] at hf
  refine singleToDouble_nan ?_
  unfold singleInfMag
  omega

theorem singleToDouble_inf_fields {b : Single} (he : (b.extractLsb' 23 8).toNat = 255)
    (hf : (b.extractLsb' 0 23).toNat = 0) : singleToDouble b = some (F64.inf b.msb) := by
  rw [single_expo_eq] at he
  rw [single_frac_eq] at hf
  refine singleToDouble_inf ?_
  unfold singleInfMag
  omega

theorem singleMag_lt_of_expo {b : Single} (he : (b.extractLsb' 23 8).toNat < 255) : singleMag b < singleInfMag := by
  rw [single_expo_eq] at he
  unfold singleInfMag
  omega

/-- Settles O56: each read by its cases (`extendedEdge_iff` for the band), each store by the class of the number, and a
read after a store by the exactness of rounding (`F64.round_units`). -/
theorem codecRoundTrips : Obligations.CodecRoundTrips := by
  refine ⟨⟨rfl, rfl, rfl⟩, fun b c => ⟨extendedToDouble_zero, fun he hf => ?_, fun he hf => ?_, fun hz he h => ?_,
      fun hz he hc hband => ?_⟩,
    fun p x => ⟨msb_doubleToExtended, fun h => ?_, fun h => ?_, fun hlo hhi => ?_, fun h hp k hle hlt => ?_,
      fun h hp => ?_, fun h hp => ?_, isNaN_doubleToExtended p⟩,
    doubleRead_eq, fun b => ⟨singleToDouble_nan_fields, singleToDouble_inf_fields, fun he => ?_⟩,
    fun s m => ⟨fun b h => ?_, fun b h => ?_, fun b h => ?_⟩,
    fun p x => extendedToDouble_doubleToExtended, fun b x => doubleToSingle_singleToDouble⟩
  · rw [extendedToDouble_of_max_exponent he, if_pos hf]
  · rw [extendedToDouble_of_max_exponent he, if_neg hf]
  · exact extendedToDouble_of_finite hz he (h.imp_right (mt (extendedEdge_iff _ _).1))
  · rw [hc]
    exact extendedToDouble_unknown_of_edge hz he ((extendedEdge_iff _ _).2 hband)
  · rw [doubleToExtended_zero p h]
    exact extendedFields_packExtended _ (by decide) (by decide)
  · rw [doubleToExtended_inf p h]
    exact extendedFields_packExtended _ (by decide) (by decide)
  · rw [doubleToExtended_normal p hlo hhi]
    exact extendedFields_packExtended _ (by omega) (extended_normal_lt x)
  · have hf := ((F64.isSubnormal_iff x).1 h).2
    have hk : Nat.log2 (F64.frac x) = k := (Nat.log2_eq_iff hf).2 ⟨hle, hlt⟩
    have hlog : Nat.log2 (F64.frac x) < 52 := (Nat.log2_lt hf).2 (F64.frac_lt x)
    rw [doubleToExtended_normalized h hp, ← hk]
    exact extendedFields_packExtended _ (by omega) (extended_normalized_lt (F64.frac_lt x))
  · have hlt := F64.frac_lt x
    obtain ⟨he, hm⟩ := extendedFields_packExtended (F64.sign x) (e := 15360) (m := F64.frac x * 2 ^ 11) (by decide)
      (by omega)
    rw [← doubleToExtended_literal h hp] at he hm
    exact ⟨he, hm, extendedToDouble_literal h hp⟩
  · rw [doubleToExtended_nan_reference h hp]
    exact extendedFields_packExtended _ (by decide) (extended_normal_lt x)
  · have hmag := singleMag_lt_of_expo he
    refine ⟨singleValue b, singleToDouble_finite hmag, isNaN_singleValue b, isInf_singleValue hmag,
      sign_singleValue b, ?_⟩
    rw [units_singleValue hmag, magUnits, ← single_expo_eq, ← single_frac_eq]
  · rw [State.readFloat32, State.ofNat_load h 4 rfl]
  · rw [State.readFloat64, State.ofNat_load h 8 rfl, doubleRead]
  · rw [State.readFloat80, State.ofNat_load h 10 rfl]

end Sys2Proof.Machine
end

section
/-! PROOFS. The square root is correctly rounded (spec R130, R301). The model rounds the midpoint of an enclosure
`sqrtLow`, `sqrtHigh` of the root; every midpoint of the format near the root is a multiple of the enclosure's width, so
the root lies on the same side of it as that midpoint. -/

namespace Sys2Proof.Machine

/-! ### The integer root -/

/-- The root is found between r and r + 2^k, a bit at a time. -/
theorem isqrtFrom_eq_sqrt {x : Nat} (k r : Nat) (hle : r * r ≤ x) (hlt : x < (r + 2 ^ k) * (r + 2 ^ k)) :
    isqrtFrom x k r = Nat.sqrt x := by
  induction k generalizing r with
  | zero => exact Nat.eq_sqrt.2 ⟨hle, hlt⟩
  | succ k ih =>
    have hstep : r + 2 ^ (k + 1) = r + 2 ^ k + 2 ^ k := by
      rw [pow_succ]
      omega
    rw [hstep] at hlt
    rw [isqrtFrom]
    split
    · next h => exact ih _ h hlt
    · next h => exact ih _ hle (not_le.1 h)

theorem sqrtShift_bound (y : Nat) : Nat.log2 y < 112 + 2 * sqrtShift y := by
  unfold sqrtShift
  omega

theorem four_pow_eq (t : Nat) : 4 ^ t = 2 ^ t * 2 ^ t := by
  rw [← mul_pow]
  rfl

theorem sqrtRoot_eq (y : Nat) : sqrtRoot y = Nat.sqrt (y / 4 ^ sqrtShift y) := by
  have hlt : y < 2 ^ (112 + 2 * sqrtShift y) := Nat.lt_log2_self.trans_le
    (Nat.pow_le_pow_right two_pos (sqrtShift_bound y))
  refine isqrtFrom_eq_sqrt 57 0 (Nat.zero_le _) ?_
  rw [Nat.div_lt_iff_lt_mul (by positivity)]
  refine hlt.trans_le ?_
  rw [pow_add, pow_mul]
  exact Nat.mul_le_mul_right _ (by decide)

theorem le_sqrtRoot {y : Nat} (hy : 2 ^ 110 ≤ y) : 2 ^ 55 ≤ sqrtRoot y := by
  have hlog : 110 ≤ Nat.log2 y := (Nat.le_log2 (by omega)).2 hy
  have hpow : 2 ^ 110 * 4 ^ sqrtShift y ≤ y := by
    calc 2 ^ 110 * 4 ^ sqrtShift y = 2 ^ (110 + 2 * sqrtShift y) := by rw [pow_add, pow_mul, show 2 ^ 2 = 4 from rfl]
      _ ≤ 2 ^ Nat.log2 y := Nat.pow_le_pow_right two_pos (by unfold sqrtShift; omega)
      _ ≤ y := Nat.log2_self_le (by omega)
  rw [sqrtRoot_eq, Nat.le_sqrt, Nat.le_div_iff_mul_le (by positivity)]
  exact hpow

/-! ### The enclosure of the root -/

/-- The lower end of the enclosure. -/
def sqrtLow (y : Nat) : Nat := sqrtRoot y * 2 ^ sqrtShift y

/-- Whether the lower end is below the root. -/
def sqrtRest (y : Nat) : Nat := if sqrtRoot y * sqrtRoot y * 4 ^ sqrtShift y = y then 0 else 1

/-- The upper end of the enclosure: the lower one where that is the root. -/
def sqrtHigh (y : Nat) : Nat := (sqrtRoot y + sqrtRest y) * 2 ^ sqrtShift y

theorem sqrtRest_le (y : Nat) : sqrtRest y ≤ 1 := by
  unfold sqrtRest
  split <;> omega

theorem sqrtSticky_mul (y : Nat) : sqrtSticky y * 2 ^ sqrtShift y = sqrtLow y + sqrtHigh y := by
  rw [sqrtSticky, ← sqrtRest, sqrtLow, sqrtHigh]
  ring

theorem sqrtLow_mul_self (y : Nat) : sqrtLow y * sqrtLow y ≤ y := by
  have hsqrt : sqrtRoot y * sqrtRoot y ≤ y / 4 ^ sqrtShift y := by
    rw [sqrtRoot_eq]
    exact Nat.sqrt_le _
  rw [Nat.le_div_iff_mul_le (by positivity), four_pow_eq] at hsqrt
  rwa [sqrtLow, mul_mul_mul_comm]

theorem le_sqrtHigh_mul_self (y : Nat) : y ≤ sqrtHigh y * sqrtHigh y := by
  rw [sqrtHigh, mul_mul_mul_comm, ← four_pow_eq]
  by_cases h : sqrtRoot y * sqrtRoot y * 4 ^ sqrtShift y = y
  · rw [sqrtRest, if_pos h, Nat.add_zero, h]
  · have hsqrt : y / 4 ^ sqrtShift y < (sqrtRoot y + 1) * (sqrtRoot y + 1) := by
      rw [sqrtRoot_eq]
      exact Nat.lt_succ_sqrt _
    rw [sqrtRest, if_neg h]
    exact ((Nat.div_lt_iff_lt_mul (by positivity)).1 hsqrt).le

theorem sqrt_mem_enclosure (y : Nat) : (sqrtLow y : ℝ) ≤ Real.sqrt y ∧ Real.sqrt y ≤ sqrtHigh y := by
  constructor
  · refine Real.le_sqrt_of_sq_le ?_
    rw [sq]
    exact_mod_cast sqrtLow_mul_self y
  · refine Real.sqrt_le_iff.2 ⟨Nat.cast_nonneg _, ?_⟩
    rw [sq]
    exact_mod_cast le_sqrtHigh_mul_self y

/-- An even multiple of the width on one side of the enclosure's middle is on that side of the enclosure. -/
theorem enclosure_of_dvd {y m : Nat} (h : 2 ^ (sqrtShift y + 1) ∣ m) :
    (sqrtLow y + sqrtHigh y ≤ m → 2 * sqrtHigh y ≤ m) ∧ (m ≤ sqrtLow y + sqrtHigh y → m ≤ 2 * sqrtLow y) := by
  obtain ⟨c, rfl⟩ := h
  have hrest := sqrtRest_le y
  have hsum : sqrtLow y + sqrtHigh y = 2 ^ sqrtShift y * (2 * sqrtRoot y + sqrtRest y) := by
    rw [sqrtLow, sqrtHigh]
    ring
  have hhigh : 2 * sqrtHigh y = 2 ^ sqrtShift y * (2 * (sqrtRoot y + sqrtRest y)) := by
    rw [sqrtHigh]
    ring
  have hlow : 2 * sqrtLow y = 2 ^ sqrtShift y * (2 * sqrtRoot y) := by
    rw [sqrtLow]
    ring
  have hpos : 0 < 2 ^ sqrtShift y := Nat.two_pow_pos _
  rw [hsum, hhigh, hlow, pow_succ, Nat.mul_assoc, Nat.mul_le_mul_left_iff hpos, Nat.mul_le_mul_left_iff hpos,
    Nat.mul_le_mul_left_iff hpos, Nat.mul_le_mul_left_iff hpos]
  omega

/-! ### The rounded middle -/

theorem offBy_two_le {n g h : Nat} (hle : offBy n 2 g ≤ offBy n 2 h) : (g < h → n ≤ g + h) ∧ (h < g → g + h ≤ n) := by
  unfold offBy at hle
  omega

section
variable {y : Nat} (hy : 2 ^ 110 ≤ y)
include hy

theorem le_sqrtLow : 2 ^ (sqrtShift y + 55) ≤ sqrtLow y := by
  rw [pow_add, Nat.mul_comm, sqrtLow]
  exact Nat.mul_le_mul_right _ (le_sqrtRoot hy)

theorem le_roundExp_sqrt : sqrtShift y + 3 ≤ roundExp 52 (sqrtLow y + sqrtHigh y) 2 := by
  have hhigh : sqrtLow y ≤ sqrtHigh y := Nat.mul_le_mul_right _ (Nat.le_add_right ..)
  have hhalf : 2 ^ (sqrtShift y + 55) ≤ (sqrtLow y + sqrtHigh y) / 2 := (le_sqrtLow hy).trans (by omega)
  have hlog := (Nat.le_log2 ((Nat.two_pow_pos _).trans_le hhalf).ne').2 hhalf
  unfold roundExp
  omega

/-- No magnitude lies nearer a number of the enclosure than the rounded middle: where it is smaller, the two enclose the
upper half at least, and where it is greater, at most the lower half. -/
theorem roundMag_sqrt_nearest (hfin : roundMag 52 F64.infMag (sqrtLow y + sqrtHigh y) 2 < F64.infMag) (mag : Nat) :
    (magUnits 52 (roundMag 52 F64.infMag (sqrtLow y + sqrtHigh y) 2) < magUnits 52 mag →
      2 * sqrtHigh y ≤ magUnits 52 (roundMag 52 F64.infMag (sqrtLow y + sqrtHigh y) 2) + magUnits 52 mag) ∧
    (magUnits 52 mag < magUnits 52 (roundMag 52 F64.infMag (sqrtLow y + sqrtHigh y) 2) →
      magUnits 52 (roundMag 52 F64.infMag (sqrtLow y + sqrtHigh y) 2) + magUnits 52 mag ≤ 2 * sqrtLow y) := by
  have hexp := le_roundExp_sqrt hy
  have hunits := magUnits_roundMag (by decide) two_pos hfin
  have hnear (j : Nat) := offBy_two_le (roundMag_nearest (by decide) two_pos hfin j).1
  generalize magUnits 52 (roundMag 52 F64.infMag (sqrtLow y + sqrtHigh y) 2) = g at hunits hnear ⊢
  have hdvd : 2 ^ (sqrtShift y + 1) ∣ g := by
    rw [hunits]
    exact Dvd.dvd.mul_left (Nat.pow_dvd_pow 2 (by omega)) _
  have hwide (j : Nat) (hj : 2 ^ (sqrtShift y + 1) ∣ magUnits 52 j) :
      (g < magUnits 52 j → 2 * sqrtHigh y ≤ g + magUnits 52 j) ∧
      (magUnits 52 j < g → g + magUnits 52 j ≤ 2 * sqrtLow y) := by
    obtain ⟨hup, hdown⟩ := enclosure_of_dvd (Nat.dvd_add hdvd hj)
    exact ⟨fun h => hup ((hnear j).1 h), fun h => hdown ((hnear j).2 h)⟩
  obtain hmag | hsmall := two_pow_dvd_magUnits_or_lt 52 mag (sqrtShift y + 1)
  · exact hwide mag hmag
  · -- A magnitude that is no such multiple lies below the binade of the root: compare with the power of two above it.
    have hpow : magUnits 52 ((sqrtShift y + 1) * 2 ^ 52 + 2 ^ 52) = 2 ^ 52 * 2 ^ (sqrtShift y + 1) :=
      magUnits_add (by decide) fun _ => le_rfl
    have hbinade : 2 ^ 52 * 2 ^ (sqrtShift y + 1) < g := by
      have hsig := le_roundSig (p := 52) (by decide) two_pos (n := sqrtLow y + sqrtHigh y) (d := 2) (by omega)
      rw [hunits]
      calc 2 ^ 52 * 2 ^ (sqrtShift y + 1) < 2 ^ 52 * 2 ^ roundExp 52 (sqrtLow y + sqrtHigh y) 2 :=
            Nat.mul_lt_mul_of_pos_left (Nat.pow_lt_pow_right Nat.one_lt_two (by omega)) (by decide)
        _ ≤ _ := Nat.mul_le_mul_right _ hsig
    have hle := (hwide _ (by rw [hpow]; exact Nat.dvd_mul_left ..)).2 (by rwa [hpow])
    rw [hpow] at hle
    rw [Nat.pow_add] at hsmall
    omega

end

/-! ### The root of a number -/

theorem F64.sqrt_eq_none_iff (x : Double) :
    F64.sqrt x = none ↔ F64.isNaN x = true ∨ (F64.sign x = true ∧ F64.isZero x = false) := by
  unfold F64.sqrt
  cases hn : F64.isNaN x
  · cases hz : F64.isZero x
    · cases hs : F64.sign x
      · cases F64.isInf x <;> simp
      · simp
    · simp
  · simp

theorem F64.sqrt_of_isZero {x : Double} (h : F64.isZero x = true) : F64.sqrt x = some x := by
  simp [F64.sqrt, h, F64.isNaN_of_isZero h]

theorem F64.sqrt_of_isInf {x : Double} (h : F64.isInf x = true) (hs : F64.sign x = false) : F64.sqrt x = some x := by
  simp [F64.sqrt, h, hs, F64.isNaN_of_isInf h, F64.isZero_of_isInf h]

/-- The rounded middle of the enclosure. -/
def F64.sqrtRounded (x : Double) : Double :=
  F64.round false (sqrtLow (F64.units x * F64.one) + sqrtHigh (F64.units x * F64.one)) 2

theorem F64.sqrt_of_pos {x : Double} (hn : F64.isNaN x = false) (hi : F64.isInf x = false)
    (hs : F64.sign x = false) (hz : F64.isZero x = false) : F64.sqrt x = some (F64.sqrtRounded x) := by
  rw [F64.sqrtRounded, ← sqrtSticky_mul]
  simp only [F64.sqrt, hn, hi, hs, hz, Bool.false_eq_true, if_false]

theorem F64.le_units_mul_one {x : Double} (hz : F64.isZero x = false) : 2 ^ 110 ≤ F64.units x * F64.one := by
  have hone : 2 ^ 110 ≤ F64.one := by decide +kernel
  exact hone.trans (Nat.le_mul_of_pos_left _ (F64.units_pos hz))

theorem sqrtHigh_le {y : Nat} (hy : 2 ^ 110 ≤ y) : sqrtHigh y ≤ 2 * sqrtLow y := by
  have hroot := le_sqrtRoot hy
  have hrest := sqrtRest_le y
  rw [sqrtHigh, sqrtLow, ← Nat.mul_assoc]
  exact Nat.mul_le_mul_right _ (by omega)

/-- The root of a finite number is far below the largest number. -/
theorem F64.isInf_sqrtRounded {x : Double} (hn : F64.isNaN x = false) (hi : F64.isInf x = false)
    (hz : F64.isZero x = false) : F64.isInf (F64.sqrtRounded x) = false := by
  have hlow : sqrtLow (F64.units x * F64.one) < 2 ^ 1600 := by
    rw [← Nat.mul_self_lt_mul_self_iff]
    calc sqrtLow (F64.units x * F64.one) * sqrtLow (F64.units x * F64.one)
        ≤ F64.units x * F64.one := sqrtLow_mul_self _
      _ ≤ (2 ^ 54 - 1) * 2 ^ 2044 * F64.one := Nat.mul_le_mul_right _ (F64.units_lt_of_finite hn hi).le
      _ < 2 ^ 1600 * 2 ^ 1600 := by decide +kernel
  have hhigh := sqrtHigh_le (F64.le_units_mul_one hz)
  have hsum : sqrtLow (F64.units x * F64.one) + sqrtHigh (F64.units x * F64.one) ≤ 3 * 2 ^ 1600 := by omega
  rw [Bool.eq_false_iff, Ne, F64.sqrtRounded, F64.isInf_round_iff _ _ two_pos]
  exact (hsum.trans_lt (by decide +kernel)).not_ge

theorem abs_sub_le_of_midpoint {g h r : ℝ} (hup : g < h → 2 * r ≤ g + h) (hdown : h < g → g + h ≤ 2 * r) :
    |g - r| ≤ |h - r| := by
  obtain hlt | rfl | hgt := lt_trichotomy g h
  · have hmid := hup hlt
    rw [abs_of_nonneg (by linarith : 0 ≤ h - r), abs_le]
    exact ⟨by linarith, by linarith⟩
  · exact le_rfl
  · have hmid := hdown hgt
    rw [abs_of_nonpos (by linarith : h - r ≤ 0), abs_le]
    exact ⟨by linarith, by linarith⟩

theorem F64.sqrtRounded_nearest {x : Double} (hn : F64.isNaN x = false) (hi : F64.isInf x = false)
    (hz : F64.isZero x = false) (y : Double) :
    |(F64.units (F64.sqrtRounded x) : ℝ) - Real.sqrt (F64.units x * F64.one : Nat)| ≤
      |(F64.units y : ℝ) - Real.sqrt (F64.units x * F64.one : Nat)| := by
  have hfin := F64.roundMag_lt_infMag (F64.isInf_sqrtRounded hn hi hz)
  obtain ⟨hup, hdown⟩ := roundMag_sqrt_nearest (F64.le_units_mul_one hz) hfin (F64.mag y)
  rw [← F64.mag_round false, ← F64.units_eq, ← F64.units_eq, ← F64.sqrtRounded] at hup hdown
  obtain ⟨hlow, hhigh⟩ := sqrt_mem_enclosure (F64.units x * F64.one)
  refine abs_sub_le_of_midpoint (fun hlt => ?_) fun hlt => ?_
  · have hmid : (2 * sqrtHigh (F64.units x * F64.one) : ℝ) ≤ F64.units (F64.sqrtRounded x) + F64.units y := by
      exact_mod_cast hup (by exact_mod_cast hlt)
    linarith
  · have hmid : (F64.units (F64.sqrtRounded x) + F64.units y : ℝ) ≤ 2 * sqrtLow (F64.units x * F64.one) := by
      exact_mod_cast hdown (by exact_mod_cast hlt)
    linarith

/-- Settles O59: rounding the middle of an enclosure of the root rounds the root (`roundMag_sqrt_nearest`,
`sqrt_mem_enclosure`). -/
theorem sqrtNearest : Obligations.SqrtNearest := by
  intro x
  refine ⟨F64.sqrt_eq_none_iff x, F64.sqrt_of_isZero, F64.sqrt_of_isInf, fun hn hi hs => ?_⟩
  have hunits : (F64.units x : ℝ) * 2 ^ 1074 = (F64.units x * F64.one : Nat) := by
    rw [F64.one_eq, Nat.cast_mul, Nat.cast_pow, Nat.cast_ofNat]
  rw [hunits]
  cases hz : F64.isZero x with
  | true =>
    refine ⟨x, F64.sqrt_of_isZero hz, hn, hi, hs, fun y _ _ => ?_⟩
    rw [F64.units_of_isZero hz, Nat.zero_mul, Nat.cast_zero, Real.sqrt_zero, sub_zero, abs_zero]
    exact abs_nonneg _
  | false =>
    exact ⟨F64.sqrtRounded x, F64.sqrt_of_pos hn hi hs hz, F64.isNaN_round .., F64.isInf_sqrtRounded hn hi hz,
      F64.sign_round .., fun y _ _ => F64.sqrtRounded_nearest hn hi hz y⟩

end Sys2Proof.Machine
end

section
/-! PROOFS. The bytes a transaction writes (spec R63, R180, R182): its data store and the RetIP word. -/

namespace Sys2Proof.Machine

/-! ### Memory of a transaction -/

/-- After the rule, every byte the instruction does not store reads as before (spec R63). -/
theorem ruleOf_read_other (s : State) {i : Instr} {a : Nat} (h : ¬ s.StoresAt i a) :
    (ruleOf i.selected (s.ruleEntry i)).mem.read a = s.mem.read a := by
  rw [State.StoresAt, Instr.dataWrite] at h
  cases hw : i.selected.ownWrite with
  | none => rw [ruleOf_mem_of_ownWrite_none _ hw, State.ruleEntry_mem]
  | some w =>
    obtain ⟨v, hv⟩ := ruleOf_mem_of_ownWrite (s.ruleEntry i) hw
    rw [hw] at h
    rw [hv, State.store, State.writeLE_read_other _ _ _ _ _ h, State.ruleEntry_mem]

@[simp] theorem State.ruleEntry_ss (s : State) (i : Instr) : (s.ruleEntry i).guest.ss = s.guest.ss := by
  cases i <;> rfl
@[simp] theorem State.ruleEntry_sp (s : State) (i : Instr) : (s.ruleEntry i).guest.sp = s.guest.sp := by
  cases i <;> rfl

/-- The state at the patch finds the return frame where the transaction was entered (spec R172, R180). -/
theorem ruleOf_selected_ss_sp (i : Instr) (s : State) :
    (ruleOf i.selected (s.ruleEntry i)).guest.ss = s.guest.ss ∧
    (ruleOf i.selected (s.ruleEntry i)).guest.sp = s.guest.sp := by
  simp [ruleOf_guest]

theorem exec_sp {i : Instr} {s t : State} (h : exec i s = .next t) : t.guest.sp = s.guest.sp := by
  obtain rfl := eq_patch_of_exec h
  rw [State.patch_guest, (ruleOf_selected_ss_sp i s).2]

/-- Settles O19: the rule writes its data store alone (`ruleOf_read_other`) and the patch the RetIP word alone. -/
theorem memoryFrame : Obligations.MemoryFrame := by
  intro i s t a h hret hstore
  obtain rfl := eq_patch_of_exec h
  obtain ⟨hss, hsp⟩ := ruleOf_selected_ss_sp i s
  rw [State.patch_read_other, ruleOf_read_other s hstore]
  rwa [State.RetIPByte, hss, hsp]

end Sys2Proof.Machine
end

section
/-! PROOFS. The return frame (spec R172, R180, R355, R356): the three words trap entry pushes, and the one the patch
writes. -/

namespace Sys2Proof.Machine

/-! ### Words above a written word -/

theorem Touches.add_iff (seg off : Word) (m n a : Nat) :
    Touches seg off (m + n) a ↔ Touches seg off m a ∨ Touches seg (off + BitVec.ofNat 16 m) n a := by
  constructor
  · rintro ⟨k, hk, rfl⟩
    obtain hlt | hge := Nat.lt_or_ge k m
    · exact .inl ⟨k, hlt, rfl⟩
    · refine .inr ⟨k - m, by omega, ?_⟩
      rw [add_assoc, ← BitVec.ofNat_add, Nat.add_sub_cancel' hge]
  · rintro (⟨k, hk, rfl⟩ | ⟨k, hk, rfl⟩)
    · exact ⟨k, by omega, rfl⟩
    · exact ⟨m + k, by omega, by rw [BitVec.ofNat_add, add_assoc]⟩

/-- Up to a whole segment, the bytes above an access are none of its own. -/
theorem Touches.disjoint_above {seg off : Word} {m n a : Nat} (h : m + n ≤ 65536)
    (ha : Touches seg (off + BitVec.ofNat 16 m) n a) : ¬ Touches seg off m a := by
  obtain ⟨k, hk, rfl⟩ := ha
  rintro ⟨j, hj, heq⟩
  rw [add_assoc, ← BitVec.ofNat_add] at heq
  have := linear_add_inj seg off (by omega) (by omega) heq
  omega

/-- A word written leaves each word above it in the segment. -/
theorem State.read16_write16_above (s : State) (seg off w : Word) {k : Nat} (hlo : 2 ≤ k) (hhi : k + 2 ≤ 65536) :
    (s.write16 seg off w).read16 seg (off + BitVec.ofNat 16 k) = s.read16 seg (off + BitVec.ofNat 16 k) := by
  refine read16_congr fun a ha => s.writeLE_read_other _ _ _ _ fun hw => ?_
  refine Touches.disjoint_above hhi ha ?_
  rw [← Nat.add_sub_cancel' hlo, Touches.add_iff]
  exact .inl hw

/-! ### The words of the guest stack -/

/-- The word `k` bytes above SS:SP. -/
def State.stackWord (s : State) (k : Nat) : Word := s.read16 s.guest.ss (s.guest.sp + BitVec.ofNat 16 k)

theorem State.retIP_eq_stackWord (s : State) : s.retIP = s.stackWord 0 := by simp [retIP, stackWord]

theorem State.retCS_eq_stackWord (s : State) : s.retCS = s.stackWord 2 := rfl

/-- A stack word depends on SS, SP and the bytes of the stack up to it alone. -/
theorem State.stackWord_congr {s t : State} {k n : Nat} (hss : t.guest.ss = s.guest.ss) (hsp : t.guest.sp = s.guest.sp)
    (hk : k + 2 ≤ n) (h : ∀ a, Touches s.guest.ss s.guest.sp n a → t.mem.read a = s.mem.read a) :
    t.stackWord k = s.stackWord k := by
  rw [stackWord, stackWord, hss, hsp]
  refine read16_congr fun a ⟨j, hj, ha⟩ => h a ⟨k + j, by omega, ?_⟩
  rw [ha, BitVec.ofNat_add, add_assoc]

@[simp] theorem State.pushWord_guest (s : State) (w : Word) :
    (s.pushWord w).guest = { s.guest with sp := s.guest.sp - 2 } := write16_guest ..

theorem State.pushWord_stackWord_zero (s : State) (w : Word) : (s.pushWord w).stackWord 0 = w := by
  rw [← retIP_eq_stackWord, retIP, pushWord_guest]
  exact read16_write16 ..

/-- A push moves each word of the stack two bytes further from SP. -/
theorem State.pushWord_stackWord_add (s : State) (w : Word) {k : Nat} (h : k + 4 ≤ 65536) :
    (s.pushWord w).stackWord (k + 2) = s.stackWord k := by
  have hoff : s.guest.sp - 2 + BitVec.ofNat 16 (k + 2) = s.guest.sp + BitVec.ofNat 16 k := by
    rw [BitVec.ofNat_add, add_comm (BitVec.ofNat 16 k), ← add_assoc]
    exact congrArg (· + _) (sub_add_cancel s.guest.sp 2)
  rw [stackWord, pushWord_guest]
  refine (read16_write16_above _ _ _ w (by omega) (by omega)).trans ?_
  rw [hoff]
  rfl

theorem State.pushWord_read_other (s : State) (w : Word) {a : Nat} (h : ¬ Touches s.guest.ss (s.guest.sp - 2) 2 a) :
    (s.pushWord w).mem.read a = s.mem.read a := writeLE_read_other _ _ _ _ _ h

/-! ### The patch -/

/-- The patch leaves the words of the frame above RetIP (spec R172, R180). -/
theorem State.patch_stackWord (s : State) (n : Nat) {k : Nat} (hlo : 2 ≤ k) (hhi : k + 2 ≤ 65536) :
    (s.patch n).stackWord k = s.stackWord k := by
  rw [stackWord, patch_guest]
  exact s.read16_write16_above _ _ _ hlo hhi

theorem State.patch_retCS (s : State) (k : Nat) : (s.patch k).retCS = s.retCS := by
  rw [retCS_eq_stackWord, retCS_eq_stackWord, patch_stackWord _ _ (by decide) (by decide)]

theorem State.patch_retIP_eq_ofNat (s : State) (k : Nat) :
    (s.patch k).retIP = BitVec.ofNat 16 (s.retIP.toNat + k) := by
  rw [patch_retIP, BitVec.ofNat_add, BitVec.ofNat_toNat, BitVec.setWidth_eq]

/-- Settles O12: the patch writes one word, and FSTCW over the frame word leaves CW there for it to advance. -/
theorem patchAdvances : Obligations.PatchAdvances := by
  refine ⟨fun s k => ⟨s.patch_retIP_eq_ofNat k, s.patch_retCS k, fun a ha => s.patch_read_other k ha⟩,
    fun s m hseg hoff => ⟨_, exec_fstcwM16 m s, ?_, ?_⟩⟩ <;> rw [hseg, hoff]
  · have hcw : (s.setRetIP s.block.cw).retIP = s.block.cw := by
      rw [State.retIP, State.setRetIP, State.write16_guest, State.read16_write16]
    rw [State.patch_retIP_eq_ofNat, ← State.setRetIP, hcw]
  · rw [State.patch_retCS, State.retCS, State.write16_guest]
    exact s.read16_write16_above _ _ _ (k := 2) (by decide) (by decide)

/-! ### Trap entry -/

/-- The state with the return frame pushed: FLAGS, then CS, then the offset past `CD vv` (spec R170, R355). -/
def State.withFrame (s : State) : State :=
  ((s.pushWord s.guest.flags).pushWord s.guest.cs).pushWord (s.guest.ip + 2)

/-- Beyond the frame, trap entry clears IF and TF and marks the transaction. -/
theorem State.trapEntry_eq (s : State) :
    s.trapEntry = { s.withFrame with
      guest := { s.withFrame.guest with flags := flagsCleared s.guest.flags }, inTransaction := true } := rfl

theorem State.withFrame_guest (s : State) : s.withFrame.guest = { s.guest with sp := s.guest.sp - 6 } := by
  have hsp : s.guest.sp - 2 - 2 - 2 = s.guest.sp - 6 := by bv_omega
  simp only [withFrame, pushWord_guest, hsp]

theorem State.trapEntry_guest (s : State) :
    s.trapEntry.guest = { s.guest with sp := s.guest.sp - 6, flags := s.guest.flags &&& ~~~(0x0300 : Word) } := by
  rw [trapEntry_eq, withFrame_guest]
  rfl

/-- The frame trap entry leaves: the offset past `CD vv`, CS and FLAGS, from SP up (spec R172). -/
theorem State.trapEntry_stackWords (s : State) :
    s.trapEntry.stackWord 0 = s.guest.ip + 2 ∧ s.trapEntry.stackWord 2 = s.guest.cs ∧
      s.trapEntry.stackWord 4 = s.guest.flags := by
  have hframe : ∀ k, s.trapEntry.stackWord k = s.withFrame.stackWord k := fun _ => rfl
  rw [hframe, hframe, hframe, withFrame]
  refine ⟨pushWord_stackWord_zero .., ?_, ?_⟩
  · rw [pushWord_stackWord_add _ _ (k := 0) (by decide), pushWord_stackWord_zero]
  · rw [pushWord_stackWord_add _ _ (k := 2) (by decide), pushWord_stackWord_add _ _ (k := 0) (by decide),
      pushWord_stackWord_zero]

/-- Trap entry writes the six bytes of the frame alone. -/
theorem State.trapEntry_read_other (s : State) {a : Nat} (h : ¬ Touches s.guest.ss (s.guest.sp - 6) 6 a) :
    s.trapEntry.mem.read a = s.mem.read a := by
  have hoff4 : s.guest.sp - 6 + BitVec.ofNat 16 2 = s.guest.sp - 2 - 2 := by bv_omega
  have hoff2 : s.guest.sp - 2 - 2 + BitVec.ofNat 16 2 = s.guest.sp - 2 := by bv_omega
  have hoff6 : s.guest.sp - 6 = s.guest.sp - 2 - 2 - 2 := by bv_omega
  rw [Touches.add_iff _ _ 2 4, Touches.add_iff _ _ 2 2, not_or, not_or, hoff4, hoff2, hoff6] at h
  obtain ⟨hip, hcs, hflags⟩ := h
  rw [trapEntry_eq, withFrame]
  dsimp only
  rw [pushWord_read_other, pushWord_read_other, pushWord_read_other _ _ hflags]
  · rwa [pushWord_guest]
  · rwa [pushWord_guest, pushWord_guest]

/-- Settles O10: entry pushes three words (`State.trapEntry_stackWords`), and the return is read off its definition. -/
theorem trapEntryAndReturn : Obligations.TrapEntryAndReturn := by
  refine ⟨fun s => ?_, fun t => ⟨t.trapReturn_guest, t.trapReturn_block, t.trapReturn_mem, t.trapReturn_params,
    t.trapReturn_inTransaction⟩⟩
  obtain ⟨hip, hcs, hflags⟩ := s.trapEntry_stackWords
  refine ⟨s.trapEntry.retIP_eq_stackWord.trans hip, s.trapEntry.retCS_eq_stackWord.trans hcs, ?_, s.trapEntry_guest, ?_,
    s.trapEntry_params, rfl, fun a => s.trapEntry_read_other⟩
  · rw [State.stackWord, s.trapEntry_guest] at hflags
    rwa [s.trapEntry_guest]
  · simp [State.trapEntry, State.pushWord]

end Sys2Proof.Machine
end

section
/-! PROOFS. A step at a trap sequence (spec R171 to R179). -/

namespace Sys2Proof

/-- Settles O7: the number of a vector is vecBase and its place among the ten. -/
theorem trapVectors : Obligations.TrapVectors := by
  refine ⟨rfl, fun base vv => ?_⟩
  obtain ⟨d, rfl⟩ : ∃ d, vv = base + d := ⟨vv - base, (add_sub_cancel base vv).symm⟩
  simp only [TrapVector.ofNumber, add_sub_cancel_left, add_right_inj, add_eq_left]
  revert d
  decide +kernel

theorem Format.skipTotal_le (f : Format) : f.skipTotal ≤ 4 := by
  cases f with
  | primary e d => exact d.skip_le.trans (by decide)
  | override se d => exact Nat.add_le_add_left d.skip_le 1
  | sync => exact Nat.zero_le 4

/-- The decoder of byte sequences reads from a trap sequence what its vector and operand bytes decode to (spec R90). -/
theorem decode_trap {base vv : Byte} {v : TrapVector} (hv : TrapVector.ofNumber base vv = some v)
    (b0 b1 b2 b3 : Byte) :
    ∃ rest, decode base [0xCD, vv, b0, b1, b2, b3] = .ok (decodeTrap v b0 b1 b2 b3, rest) := by
  have hlen : ¬ [b0, b1, b2, b3].length < (decodeFormat v b0 b1 b2 b3).skipTotal :=
    (Format.skipTotal_le _).not_gt
  refine ⟨[b0, b1, b2, b3].drop (decodeFormat v b0 b1 b2 b3).skipTotal, ?_⟩
  simp only [decode, hv]
  exact (if_neg (not_not.2 rfl)).trans (if_neg hlen)

namespace Machine

/-- A step at a trap sequence is one trap, from entry to return (spec R170 to R178). -/
theorem step_of_trap {s : State} {v : TrapVector} (hidle : s.inTransaction = false)
    (hcd : s.read8 s.guest.cs s.guest.ip = 0xCD)
    (hv : TrapVector.ofNumber s.params.vecBase (s.read8 s.guest.cs (s.guest.ip + 1)) = some v) :
    step s = s.runTrap v := by
  have h0 : s.codeByte 0 = intOpcode := by simpa [State.codeByte, intOpcode] using hcd
  have h1 : TrapVector.ofNumber s.params.vecBase (s.codeByte 1) = some v := hv
  simp [step, hidle, State.trapAt, h0, h1]

/-- Settles O8: the step is one trap (`step_of_trap`), and its operand bytes decode the same either way
(`decode_trap`). -/
theorem stepRunsDecoded : Obligations.StepRunsDecoded := by
  intro s v hidle hcd hv
  refine ⟨?_, decode_trap hv .., step_of_trap hidle hcd hv⟩
  exact (decodeEncode 0 v _ _ _ _).1

/-- A transaction whose data store spares the return frame advances RetIP and leaves the two words above it (spec R179,
R180). -/
theorem exec_retIP_and_stackWord {i : Instr} {s t : State} (h : exec i s = .next t)
    (hspares : ∀ a, Touches s.guest.ss s.guest.sp 6 a → ¬ s.StoresAt i a) :
    t.retIP = s.retIP + BitVec.ofNat 16 i.skipTotal ∧
      ∀ k, 2 ≤ k → k + 2 ≤ 6 → t.stackWord k = s.stackWord k := by
  obtain rfl := eq_patch_of_exec h
  obtain ⟨hss, hsp⟩ := ruleOf_selected_ss_sp i s
  have hrule : ∀ k, k + 2 ≤ 6 → (ruleOf i.selected (s.ruleEntry i)).stackWord k = s.stackWord k := fun k hk =>
    State.stackWord_congr hss hsp hk fun a ha => ruleOf_read_other s (hspares a ha)
  refine ⟨?_, fun k hlo hhi => ?_⟩
  · rw [State.patch_retIP, State.retIP_eq_stackWord, hrule 0 (by decide), ← State.retIP_eq_stackWord]
  · rw [State.patch_stackWord _ _ hlo (by omega), hrule k hhi]

/-- Settles O11: the return finds the words trap entry pushed (`State.trapEntry_stackWords`), RetIP advanced by the
transaction (`exec_retIP_and_stackWord`). -/
theorem guestAdvance : Obligations.GuestAdvance := by
  intro s v hidle hcd hv hspares
  obtain ⟨t, hexec⟩ : ∃ t, exec (s.trapEntry.fetched v) s.trapEntry = .next t := ⟨_, exec_rule ..⟩
  obtain ⟨hip, hcs, hflags⟩ := s.trapEntry_stackWords
  obtain ⟨hret, hkept⟩ := exec_retIP_and_stackWord hexec (by rwa [s.trapEntry_guest])
  refine ⟨t.trapReturn, by rw [step_of_trap hidle hcd hv, State.runTrap, hexec, resume], ?_, ?_, ?_, ?_⟩ <;>
    rw [State.trapReturn_guest]
  · change t.retIP = _
    rw [hret, State.retIP_eq_stackWord, hip, BitVec.ofNat_add, BitVec.ofNat_add, BitVec.ofNat_toNat,
      BitVec.setWidth_eq]
    rfl
  · exact t.retCS_eq_stackWord.trans ((hkept 2 (by decide) (by decide)).trans hcs)
  · exact (hkept 4 (by decide) (by decide)).trans hflags
  · change t.guest.sp + 6 = _
    rw [exec_sp hexec, s.trapEntry_guest]
    exact sub_add_cancel s.guest.sp 6

end Machine

end Sys2Proof
end

section
/-! PROOFS. Memory-operand and register-operand arithmetic (spec R190 to R236). Each form but FCOMPP runs one of five
shapes of rule (Machine/ArithMem.lean, Machine/ArithReg.lean); a lemma per shape says what its transaction does, and
each form then is its format and its operation. -/

namespace Sys2Proof.Machine

/-! ### Memory arithmetic -/

/-- What O30, O31 and O32 say of one form: its format, and a transaction that writes the result to ST(0). -/
def ArithMemForm (m : MemOperand) (s : State) (i : Instr) (e : Esc) (op : BitVec 3) (r : Option Double) : Prop :=
  i.format = .primary e ⟨op, .mem m⟩ ∧
  ∃ t, exec i s = .next t ∧ s.WritesSlot t s.block.top r s.block.sw ∧ s.OutsideKept t ∧ s.OnlyPatched t m.skip

/-- A form that runs `arithMem` with an operation that carries a NaN operand (spec R190). -/
theorem arithMemForm_of_exec {m : MemOperand} {s : State} {i : Instr} {e : Esc} {op : BitVec 3} {r : Option Double}
    {f : Double → Double → Option Double} (hformat : i.format = .primary e ⟨op, .mem m⟩)
    (hexec : exec i s = .next ((s.arithMem r f).patch m.skip)) (hnan : ∀ x {v}, F64.isNaN v = true → f x v = none) :
    ArithMemForm m s i e op (r.bind (f (s.block.getST 0))) :=
  ⟨hformat, _, hexec, s.arithMem_spec r hnan m.skip⟩

/-- Settles O30: the eight forms are `arithMem` with `F64.add` and `F64.mul`. -/
theorem memoryAddMul : Obligations.MemoryAddMul := by
  intro m s i e op r h
  change ArithMemForm m s i e op r
  fin_cases h
  · exact arithMemForm_of_exec rfl (exec_faddM32real m s) F64.add_nan_right
  · exact arithMemForm_of_exec rfl (exec_fiaddM32int m s) F64.add_nan_right
  · exact arithMemForm_of_exec rfl (exec_faddM64real m s) F64.add_nan_right
  · exact arithMemForm_of_exec rfl (exec_fiaddM16int m s) F64.add_nan_right
  · exact arithMemForm_of_exec rfl (exec_fmulM32real m s) F64.mul_nan_right
  · exact arithMemForm_of_exec rfl (exec_fimulM32int m s) F64.mul_nan_right
  · exact arithMemForm_of_exec rfl (exec_fmulM64real m s) F64.mul_nan_right
  · exact arithMemForm_of_exec rfl (exec_fimulM16int m s) F64.mul_nan_right

/-- Settles O31: the eight forms are `arithMem` with `F64.sub`, its operands exchanged in the reverse forms. -/
theorem memorySub : Obligations.MemorySub := by
  intro m s i e op r h
  change ArithMemForm m s i e op r
  have hrev : ∀ x {v : Double}, F64.isNaN v = true → F64.sub v x = none := fun x _ => F64.sub_nan_left x
  fin_cases h
  · exact arithMemForm_of_exec rfl (exec_fsubM32real m s) F64.sub_nan_right
  · exact arithMemForm_of_exec rfl (exec_fisubM32int m s) F64.sub_nan_right
  · exact arithMemForm_of_exec rfl (exec_fsubM64real m s) F64.sub_nan_right
  · exact arithMemForm_of_exec rfl (exec_fisubM16int m s) F64.sub_nan_right
  · exact arithMemForm_of_exec rfl (exec_fsubrM32real m s) hrev
  · exact arithMemForm_of_exec rfl (exec_fisubrM32int m s) hrev
  · exact arithMemForm_of_exec rfl (exec_fsubrM64real m s) hrev
  · exact arithMemForm_of_exec rfl (exec_fisubrM16int m s) hrev

/-- Settles O32: the eight forms are `arithMem` with `F64.div`, its operands exchanged in the reverse forms. -/
theorem memoryDiv : Obligations.MemoryDiv := by
  intro m s i e op r h
  change ArithMemForm m s i e op r
  have hrev : ∀ x {v : Double}, F64.isNaN v = true → F64.div v x = none := fun x _ => F64.div_nan_left x
  fin_cases h
  · exact arithMemForm_of_exec rfl (exec_fdivM32real m s) F64.div_nan_right
  · exact arithMemForm_of_exec rfl (exec_fidivM32int m s) F64.div_nan_right
  · exact arithMemForm_of_exec rfl (exec_fdivM64real m s) F64.div_nan_right
  · exact arithMemForm_of_exec rfl (exec_fidivM16int m s) F64.div_nan_right
  · exact arithMemForm_of_exec rfl (exec_fdivrM32real m s) hrev
  · exact arithMemForm_of_exec rfl (exec_fidivrM32int m s) hrev
  · exact arithMemForm_of_exec rfl (exec_fdivrM64real m s) hrev
  · exact arithMemForm_of_exec rfl (exec_fidivrM16int m s) hrev

/-! ### Compares -/

/-- SW after a compare of ST(0) with a memory operand, of which a NaN is unordered (spec R37, R190). -/
def State.swCompareMem (s : State) (r : Option Double) : Word :=
  swCompare s.block.sw (r.elim .unordered (F64.relation (s.block.getST 0)))

/-- FCOM's shape: SW alone changes, and RetIP is advanced (spec R190). -/
theorem State.compareMem_spec (s : State) (r : Option Double) (k : Nat) :
    s.OutsideKept ((s.compareMem r).patch k) ∧ s.OnlyPatched ((s.compareMem r).patch k) k ∧
    ((s.compareMem r).patch k).block = { s.block with sw := s.swCompareMem r } := by
  obtain ⟨hmem, hguest, hparams, htrans⟩ := s.compareMem_kept r
  obtain ⟨hout, hpatch⟩ := kept_complete hmem hguest hparams htrans k
  exact ⟨hout, hpatch, by rw [patch_block, compareMem_block, swCompareMem]⟩

/-- FCOMP's shape: that change of SW, then a pop (spec R190). -/
theorem State.compareMemPop_spec (s : State) (r : Option Double) (k : Nat) :
    s.OutsideKept ((s.compareMemPop r).patch k) ∧ s.OnlyPatched ((s.compareMemPop r).patch k) k ∧
    ((s.compareMemPop r).patch k).block = Block.pop { s.block with sw := s.swCompareMem r } := by
  obtain ⟨hmem, hguest, hparams, htrans⟩ := s.compareMemPop_kept r
  obtain ⟨hout, hpatch⟩ := kept_complete hmem hguest hparams htrans k
  exact ⟨hout, hpatch, by rw [patch_block, compareMemPop_block, compareMem_block, swCompareMem]⟩

/-- A pop after a change of SW that keeps TOP. -/
theorem Block.withSw_pop_spec (b : Block) {sw : Word} (htop : swTop sw = b.top) :
    (Block.pop { b with sw := sw }).sw = swWithTop sw (b.top + 1) ∧
    (Block.pop { b with sw := sw }).tag b.top = .empty ∧ b.SlotsKept (Block.pop { b with sw := sw }) [b.top] := by
  have ht : Block.top { b with sw := sw } = b.top := htop
  have hkept := slotsKept_pop { b with sw := sw }
  rw [ht] at hkept
  exact ⟨by rw [sw_pop, ht], by rw [tag_pop, ht, if_pos rfl], hkept⟩

/-- What O33 says of one form: its format, the compare, and after it the pop of the forms of op 3. -/
def CompareMemForm (m : MemOperand) (s : State) (i : Instr) (e : Esc) (op : BitVec 3) (r : Option Double) : Prop :=
  i.format = .primary e ⟨op, .mem m⟩ ∧
  ∃ t, exec i s = .next t ∧ s.OutsideKept t ∧ s.OnlyPatched t m.skip ∧
    t.block.regs = s.block.regs ∧ t.block.cw = s.block.cw ∧
    if op = 3 then
      t.block.sw = swWithTop (s.swCompareMem r) (s.block.top + 1) ∧ t.block.tag s.block.top = .empty ∧
        s.block.SlotsKept t.block [s.block.top]
    else t.block.sw = s.swCompareMem r ∧ t.block.tags = s.block.tags

section

variable {m : MemOperand} {s : State} {i : Instr} {e : Esc} {r : Option Double}

theorem compareMemForm_of_exec (hformat : i.format = .primary e ⟨2, .mem m⟩)
    (hexec : exec i s = .next ((s.compareMem r).patch m.skip)) : CompareMemForm m s i e 2 r := by
  obtain ⟨hout, hpatch, hblock⟩ := s.compareMem_spec r m.skip
  refine ⟨hformat, _, hexec, hout, hpatch, ?_⟩
  rw [hblock, if_neg (by decide)]
  exact ⟨rfl, rfl, rfl, rfl⟩

theorem compareMemForm_of_exec_pop (hformat : i.format = .primary e ⟨3, .mem m⟩)
    (hexec : exec i s = .next ((s.compareMemPop r).patch m.skip)) : CompareMemForm m s i e 3 r := by
  obtain ⟨hout, hpatch, hblock⟩ := s.compareMemPop_spec r m.skip
  refine ⟨hformat, _, hexec, hout, hpatch, ?_⟩
  rw [hblock, if_pos rfl]
  exact ⟨rfl, rfl, s.block.withSw_pop_spec (swTop_swCompare ..)⟩

end

/-- Settles O33: the FCOM forms are `compareMem` and the FCOMP forms `compareMemPop`. -/
theorem memoryCompare : Obligations.MemoryCompare := by
  intro m s i e op r h
  change CompareMemForm m s i e op r
  fin_cases h
  · exact compareMemForm_of_exec rfl (exec_fcomM32real m s)
  · exact compareMemForm_of_exec_pop rfl (exec_fcompM32real m s)
  · exact compareMemForm_of_exec rfl (exec_ficomM32int m s)
  · exact compareMemForm_of_exec_pop rfl (exec_ficompM32int m s)
  · exact compareMemForm_of_exec rfl (exec_fcomM64real m s)
  · exact compareMemForm_of_exec_pop rfl (exec_fcompM64real m s)
  · exact compareMemForm_of_exec rfl (exec_ficomM16int m s)
  · exact compareMemForm_of_exec_pop rfl (exec_ficompM16int m s)

/-! ### FCOMPP -/

/-- Two operations in a row keep every slot that neither names. -/
theorem Block.SlotsKept.trans {b c d : Block} {l l' : List (BitVec 3)} (hbc : b.SlotsKept c l)
    (hcd : c.SlotsKept d l') : b.SlotsKept d (l ++ l') := by
  intro p hp
  rw [List.mem_append, not_or] at hp
  obtain ⟨hregc, htagc⟩ := hbc p hp.1
  obtain ⟨hregd, htagd⟩ := hcd p hp.2
  exact ⟨hregd.trans hregc, htagd.trans htagc⟩

/-- Two pops empty the two slots from TOP on (spec R34). -/
theorem Block.pop_pop_spec (b : Block) :
    b.pop.pop.sw = swWithTop b.sw (b.top + 2) ∧ b.pop.pop.tag b.top = .empty ∧
    b.pop.pop.tag (b.top + 1) = .empty ∧ b.SlotsKept b.pop.pop [b.top, b.top + 1] := by
  refine ⟨?_, ?_, ?_, ?_⟩
  · rw [sw_pop, sw_pop, top_pop, swWithTop_swWithTop, add_assoc]
    rfl
  · rw [tag_pop, tag_pop, if_pos rfl, ite_self]
  · rw [tag_pop, top_pop, if_pos rfl]
  · have h := b.slotsKept_pop.trans b.pop.slotsKept_pop
    rwa [top_pop] at h

/-- Settles O36: a compare, which keeps TOP and every slot, and two pops. -/
theorem fcompp : Obligations.Fcompp := by
  intro j s
  let b := s.block.compare (s.block.getST 0) (s.block.getST 1)
  obtain ⟨hsw, htag, htag', hkept⟩ := b.pop_pop_spec
  obtain ⟨hout, hpatch⟩ := s.onBlock_complete (fun b => (b.compare (b.getST 0) (b.getST 1)).pop.pop) 1
  rw [s.block.top_compare] at hsw htag htag' hkept
  refine ⟨rfl, _, exec_fcompp j s, hout, hpatch, ?_⟩
  rw [State.patch_block, State.onBlock_block]
  exact ⟨hsw, rfl, rfl, htag, htag', hkept⟩

/-! ### Register arithmetic -/

/-- What O34 says of one form: its format, and a transaction that writes the result to ST(j). -/
def ArithRegForm (j : BitVec 3) (s : State) (i : Instr) (op : BitVec 3) (r : Option Double) : Prop :=
  i.format = .primary .dc ⟨op, .reg j⟩ ∧
  ∃ t, exec i s = .next t ∧ s.WritesSlot t (s.block.top + j) r s.block.sw ∧ s.OutsideKept t ∧ s.OnlyPatched t 1

theorem arithRegForm_of_exec {j : BitVec 3} {s : State} {i : Instr} {op : BitVec 3}
    {f : Double → Double → Option Double} (hformat : i.format = .primary .dc ⟨op, .reg j⟩)
    (hexec : exec i s = .next ((s.arithReg j f).patch 1)) :
    ArithRegForm j s i op (f (s.block.getST j) (s.block.getST 0)) :=
  ⟨hformat, _, hexec, s.setResult_complete j _ 1⟩

/-- Settles O34: the six forms are `arithReg`, the operands exchanged in the reverse ones. -/
theorem registerArith : Obligations.RegisterArith := by
  intro j s i op r h
  change ArithRegForm j s i op r
  fin_cases h
  · exact arithRegForm_of_exec rfl (exec_faddStiSt j s)
  · exact arithRegForm_of_exec rfl (exec_fmulStiSt j s)
  · exact arithRegForm_of_exec rfl (exec_fsubrStiSt j s)
  · exact arithRegForm_of_exec rfl (exec_fsubStiSt j s)
  · exact arithRegForm_of_exec rfl (exec_fdivrStiSt j s)
  · exact arithRegForm_of_exec rfl (exec_fdivStiSt j s)

/-- What O35 says of the block after a form: the result in ST(j) of before, TAG[TOP] emptied, every other slot kept. -/
def ArithRegPopBlock (j : BitVec 3) (b c : Block) (r : Option Double) : Prop :=
  Gives r (c.reg (b.top + j)) ∧ c.tag b.top = .empty ∧
  (j ≠ 0 → c.tag (b.top + j) = tagOf (c.reg (b.top + j)) ∧ c.reg b.top = b.reg b.top) ∧
  b.SlotsKept c [b.top + j, b.top] ∧ c.sw = swWithTop b.sw (b.top + 1) ∧ c.cw = b.cw

/-- A write to ST(j) and then a pop: for j = 0 the value stays in the slot the pop empties, for every other j the
two slots are distinct. -/
theorem Block.setST_pop_spec (b : Block) (j : BitVec 3) {v : Double} {r : Option Double} (hr : Gives r v) :
    ArithRegPopBlock j b (b.setST j v).pop r := by
  refine ⟨?_, ?_, fun hj => ?_, ?_, rfl, rfl⟩
  · rwa [reg_pop, ← phys, reg_setST_phys]
  · rw [tag_pop, top_setST, if_pos rfl]
  · have hne : b.phys j ≠ b.top := by simpa [phys] using hj
    constructor
    · rw [← phys, tag_pop, top_setST, if_neg hne, tag_setST_phys, reg_pop, reg_setST_phys]
    · rw [reg_pop, reg_setST, if_neg hne.symm]
  · exact (b.slotsKept_setST j v).trans (b.setST j v).slotsKept_pop

/-- What O35 says of one form: its format, and a transaction that writes the result to ST(j) and pops. -/
def ArithRegPopForm (j : BitVec 3) (s : State) (i : Instr) (op : BitVec 3) (r : Option Double) : Prop :=
  i.format = .primary .de ⟨op, .reg j⟩ ∧
  ∃ t, exec i s = .next t ∧ s.OutsideKept t ∧ s.OnlyPatched t 1 ∧ ArithRegPopBlock j s.block t.block r

theorem arithRegPopForm_of_exec {j : BitVec 3} {s : State} {i : Instr} {op : BitVec 3}
    {f : Double → Double → Option Double} (hformat : i.format = .primary .de ⟨op, .reg j⟩)
    (hexec : exec i s = .next ((s.arithRegPop j f).patch 1)) :
    ArithRegPopForm j s i op (f (s.block.getST j) (s.block.getST 0)) := by
  obtain ⟨hmem, hguest, hparams, htrans⟩ := s.arithRegPop_kept j f
  obtain ⟨hout, hpatch⟩ := State.kept_complete hmem hguest hparams htrans 1
  refine ⟨hformat, _, hexec, hout, hpatch, ?_⟩
  rw [State.patch_block, State.arithRegPop, State.onBlock_block, State.arithReg, State.setResult_block]
  exact s.block.setST_pop_spec j (s.gives_settle _)

/-- Settles O35: the six forms are `arithRegPop`, the operands exchanged in the reverse ones. -/
theorem registerArithPop : Obligations.RegisterArithPop := by
  intro j s i op r h
  change ArithRegPopForm j s i op r
  fin_cases h
  · exact arithRegPopForm_of_exec rfl (exec_faddpStiSt j s)
  · exact arithRegPopForm_of_exec rfl (exec_fmulpStiSt j s)
  · exact arithRegPopForm_of_exec rfl (exec_fsubrpStiSt j s)
  · exact arithRegPopForm_of_exec rfl (exec_fsubpStiSt j s)
  · exact arithRegPopForm_of_exec rfl (exec_fdivrpStiSt j s)
  · exact arithRegPopForm_of_exec rfl (exec_fdivpStiSt j s)

end Sys2Proof.Machine
end

section
/-! PROOFS. Loads, stores, register moves and constants (spec R250 to R277, R329). The loads, FLD ST(i) and the
constants run one shape of rule, a push; the stores another, a data store with or without a pop before it. A lemma per
shape says what its transaction does, and each form then is its format and its operand or value. -/

namespace Sys2Proof.Machine

/-! ### Pushes -/

/-- What O37, O42 and O40 (of FLD ST(j)) say of one form: its format, and a transaction that pushes the result and
advances RetIP by `k`. -/
def PushForm (s : State) (i : Instr) (e : Esc) (d : Descriptor) (r : Option Double) (k : Nat) : Prop :=
  i.format = .primary e d ∧
  ∃ t, exec i s = .next t ∧ s.OutsideKept t ∧ s.OnlyPatched t k ∧
    s.WritesSlot t (s.block.top - 1) r (swWithTop s.block.sw (s.block.top - 1))

section

variable {s : State} {i : Instr} {e : Esc} {d : Descriptor} {k : Nat}

theorem pushForm_of_exec {r : Option Double} (hformat : i.format = .primary e d)
    (hexec : exec i s = .next ((s.pushResult r).patch k)) : PushForm s i e d r k := by
  obtain ⟨hslot, hout, hpatch⟩ := s.pushResult_complete r k
  exact ⟨hformat, _, hexec, hout, hpatch, hslot⟩

/-- A push of a pattern is the push of a result that is no NaN to be drawn. -/
theorem State.pushResult_some (s : State) (v : Double) : s.pushResult (some v) = s.onBlock (·.push v) := rfl

theorem pushForm_of_exec_push {v : Double} (hformat : i.format = .primary e d)
    (hexec : exec i s = .next ((s.onBlock (·.push v)).patch k)) : PushForm s i e d (some v) k :=
  pushForm_of_exec hformat (by rw [hexec, State.pushResult_some])

end

/-- Settles O37: the six loads are `loadPush`, a push of the operand as its format reads it. -/
theorem loads : Obligations.Loads := by
  intro m s i e op r h
  change PushForm s i e ⟨op, .mem m⟩ r m.skip
  fin_cases h
  · exact pushForm_of_exec rfl (exec_fldM32real m s)
  · exact pushForm_of_exec rfl (exec_fildM32int m s)
  · exact pushForm_of_exec rfl (exec_fldM80real m s)
  · exact pushForm_of_exec rfl (exec_fldM64real m s)
  · exact pushForm_of_exec rfl (exec_fildM16int m s)
  · exact pushForm_of_exec rfl (exec_fildM64int m s)

/-- Settles O42: the seven forms push 1.0, +0.0 or the parameter of their constant. -/
theorem constants : Obligations.Constants := by
  refine ⟨rfl, fun s i rm c h => ?_⟩
  change PushForm s i .d9 ⟨5, .reg rm⟩ (some c) 1
  fin_cases h
  · exact pushForm_of_exec_push rfl (exec_fld1 s)
  · exact pushForm_of_exec_push rfl (exec_fldl2t s)
  · exact pushForm_of_exec_push rfl (exec_fldl2e s)
  · exact pushForm_of_exec_push rfl (exec_fldpi s)
  · exact pushForm_of_exec_push rfl (exec_fldlg2 s)
  · exact pushForm_of_exec_push rfl (exec_fldln2 s)
  · exact pushForm_of_exec_push rfl (exec_fldz s)

/-! ### Register moves -/

theorem Block.phys_setST (b : Block) (i j : BitVec 3) (v : Double) : (b.setST i v).phys j = b.phys j := rfl

/-- The slots after FXCH ST(j): for j = 0 the two writes are of one value to one slot (`hsame`). -/
theorem Block.exchange_spec (b : Block) (j : BitVec 3) {c : Block}
    (hc : c = (b.setST 0 (b.getST j)).setST j (b.getST 0)) :
    c.getST 0 = b.getST j ∧ c.getST j = b.getST 0 ∧ c.tag b.top = tagOf (b.getST j) ∧
    c.tag (b.top + j) = tagOf (b.getST 0) ∧ b.SlotsKept c [b.top, b.top + j] := by
  subst hc
  have hsame : b.top = b.phys j → b.getST 0 = b.getST j := fun h => by rw [getST, phys_zero, h, getST]
  refine ⟨?_, reg_setST_phys _ j _, ?_, tag_setST_phys _ j _, ?_⟩
  · rw [getST, phys_zero, top_setST, top_setST, reg_setST, reg_setST, phys_setST, phys_zero, if_pos rfl]
    exact ite_eq_right_iff.2 hsame
  · rw [tag_setST, tag_setST, phys_setST, phys_zero, if_pos rfl]
    exact ite_eq_right_iff.2 fun h => congrArg tagOf (hsame h)
  · have hkept := (b.slotsKept_setST 0 (b.getST j)).trans (slotsKept_setST _ j (b.getST 0))
    rwa [phys_zero] at hkept

/-- Settles O40: FLD ST(j) pushes ST(j) as it was, and FXCH ST(j) writes both slots. -/
theorem registerMoves : Obligations.RegisterMoves := by
  intro j s
  obtain ⟨hfld, hpush⟩ := pushForm_of_exec_push (e := .d9) (d := ⟨0, .reg j⟩) rfl (exec_fldSti j s)
  obtain ⟨hout, hpatch⟩ := s.onBlock_complete (fun b => (b.setST 0 (b.getST j)).setST j (b.getST 0)) 1
  obtain ⟨hget, hgetj, htag, htagj, hkept⟩ := s.block.exchange_spec j rfl
  refine ⟨hfld, rfl, hpush, _, exec_fxchSti j s, hout, hpatch, ?_⟩
  rw [State.patch_block, State.onBlock_block]
  exact ⟨hget, hgetj, htag, htagj, hkept, rfl, rfl⟩

/-- A DD register form: a change of the block under `ddRegForms = standard`, and the patch alone otherwise. -/
theorem ddRegForm_of_exec {j : BitVec 3} {s : State} {i : Instr} {op : BitVec 3} {f : Block → Block}
    (hformat : i.format = .primary .dd ⟨op, .reg j⟩)
    (hexec : exec i s = .next ((if s.params.ddRegForms = .standard then s.onBlock f else s).patch 1)) :
    i.format = .primary .dd ⟨op, .reg j⟩ ∧
    ∃ t, exec i s = .next t ∧ s.OutsideKept t ∧ s.OnlyPatched t 1 ∧
      t.block = if s.params.ddRegForms = .standard then f s.block else s.block := by
  refine ⟨hformat, _, hexec, ?_⟩
  by_cases h : s.params.ddRegForms = .standard
  · rw [if_pos h, if_pos h]
    obtain ⟨hout, hpatch⟩ := s.onBlock_complete f 1
    exact ⟨hout, hpatch, State.patch_block ..⟩
  · rw [if_neg h, if_neg h]
    obtain ⟨hout, hpatch⟩ := State.kept_complete (s := s) rfl rfl rfl rfl 1
    exact ⟨hout, hpatch, State.patch_block ..⟩

/-- Settles O41: the three forms test `ddRegForms` and then change the block alone. -/
theorem ddRegisterForms : Obligations.DdRegisterForms := by
  intro j s i op b h
  fin_cases h
  · exact ddRegForm_of_exec rfl (exec_fstSti j s)
  · exact ddRegForm_of_exec rfl (exec_fstpSti j s)
  · exact ddRegForm_of_exec rfl (exec_ffreeSti j s)

/-! ### Stores -/

/-- The state a store writes in: the forms that pop do so first, ST(0) having been read (spec R250, R73). -/
def State.storeEntry (s : State) (pops : Bool) : State := if pops then s.popped else s

theorem State.storeEntry_kept (s : State) (pops : Bool) :
    (s.storeEntry pops).mem = s.mem ∧ (s.storeEntry pops).guest = s.guest ∧
    (s.storeEntry pops).params = s.params ∧ (s.storeEntry pops).inTransaction = s.inTransaction ∧
    (s.storeEntry pops).block = if pops then s.block.pop else s.block := by
  cases pops
  · exact ⟨rfl, rfl, rfl, rfl, rfl⟩
  · exact s.popped_kept

/-- What O39 says of one form: its format, the bytes it covers, and a transaction that stores `v` and pops or not. -/
def StoreForm (m : MemOperand) (s : State) (i : Instr) (e : Esc) (op : BitVec 3) (n v : Nat) (pops : Bool) : Prop :=
  i.format = .primary e ⟨op, .mem m⟩ ∧ i.dataWrite = some (m, n) ∧
  ∃ t, exec i s = .next t ∧ s.StoredAndPatched t m n v m.skip ∧ s.OutsideKept t ∧
    t.block = if pops then s.block.pop else s.block

/-- What O38 says of one form: the same, of a value of which `stored` is said. -/
def FloatStoreForm (m : MemOperand) (s : State) (i : Instr) (e : Esc) (op : BitVec 3) (n : Nat) (stored : Nat → Prop)
    (pops : Bool) : Prop :=
  i.format = .primary e ⟨op, .mem m⟩ ∧ i.dataWrite = some (m, n) ∧
  ∃ t v, exec i s = .next t ∧ stored v ∧ s.StoredAndPatched t m n v m.skip ∧ s.OutsideKept t ∧
    t.block = if pops then s.block.pop else s.block

/-- The value a 32-bit store of `x` writes: the rounded pattern, some NaN for a NaN (spec R142). -/
def StoresSingle (x : Double) (v : Nat) : Prop :=
  ∃ b : Single, v = b.toNat ∧
    (if F64.isNaN x then b.extractLsb' 23 8 = 255 ∧ b.extractLsb' 0 23 ≠ 0 else b = doubleToSingle x)

/-- The value a 64-bit store of `x` writes: the pattern, some NaN for a NaN (spec R144). -/
def StoresDouble (x : Double) (v : Nat) : Prop :=
  ∃ b : Double, v = b.toNat ∧ (if F64.isNaN x then F64.isNaN b = true else b = x)

section

variable {m : MemOperand} {s : State} {i : Instr} {e : Esc} {op : BitVec 3} {n v d : Nat} {pops : Bool}

/-- A form that stores the `n` bytes of `v` at its operand, `d` free values being drawn. -/
theorem storeForm_of_exec_drawn (hn : n ≤ 65536) (hformat : i.format = .primary e ⟨op, .mem m⟩)
    (hwrite : i.dataWrite = some (m, n))
    (hexec : exec i s = .next ((((s.storeEntry pops).store m n v).drawn d).patch m.skip)) :
    StoreForm m s i e op n v pops := by
  obtain ⟨hmem, hguest, hparams, htrans, hblock⟩ := s.storeEntry_kept pops
  obtain ⟨hstored, hout⟩ := s.store_complete (s.storeEntry pops)
    (u := ((s.storeEntry pops).store m n v).drawn d) m m.skip hn hmem hguest rfl
    (by simp [hguest]) (by simp [hparams]) (by simp [htrans])
  exact ⟨hformat, hwrite, _, hexec, hstored, hout, by
    rw [State.patch_block, State.drawn_block, State.store_block, hblock]⟩

theorem storeForm_of_exec (hn : n ≤ 65536) (hformat : i.format = .primary e ⟨op, .mem m⟩)
    (hwrite : i.dataWrite = some (m, n))
    (hexec : exec i s = .next (((s.storeEntry pops).store m n v).patch m.skip)) : StoreForm m s i e op n v pops :=
  storeForm_of_exec_drawn (d := 0) hn hformat hwrite hexec

theorem StoreForm.float (h : StoreForm m s i e op n v pops) {stored : Nat → Prop} (hv : stored v) :
    FloatStoreForm m s i e op n stored pops := by
  obtain ⟨hformat, hwrite, t, hexec, hstored, hout, hblock⟩ := h
  exact ⟨hformat, hwrite, t, v, hexec, hv, hstored, hout, hblock⟩

theorem floatStoreForm_of_exec_single (hformat : i.format = .primary e ⟨op, .mem m⟩)
    (hwrite : i.dataWrite = some (m, 4))
    (hexec : exec i s = .next (((s.storeEntry pops).writeFloat32 m s.st0).patch m.skip)) :
    FloatStoreForm m s i e op 4 (StoresSingle (s.block.getST 0)) pops := by
  obtain ⟨b, d, hb, hpattern⟩ := (s.storeEntry pops).writeFloat32_spec m s.st0
  rw [hb] at hexec
  exact (storeForm_of_exec_drawn (by decide) hformat hwrite hexec).float ⟨b, rfl, hpattern⟩

theorem floatStoreForm_of_exec_double (hformat : i.format = .primary e ⟨op, .mem m⟩)
    (hwrite : i.dataWrite = some (m, 8))
    (hexec : exec i s = .next (((s.storeEntry pops).writeFloat64 m s.st0).patch m.skip)) :
    FloatStoreForm m s i e op 8 (StoresDouble (s.block.getST 0)) pops := by
  obtain ⟨b, d, hb, hpattern⟩ := (s.storeEntry pops).writeFloat64_spec m s.st0
  rw [hb] at hexec
  exact (storeForm_of_exec_drawn (by decide) hformat hwrite hexec).float ⟨b, rfl, hpattern⟩

end

/-- Settles O38: each form stores the pattern its format has for ST(0), a NaN in the 32- and 64-bit ones drawn. -/
theorem floatStores : Obligations.FloatStores := by
  intro m s i e op n stored pops h
  change FloatStoreForm m s i e op n stored pops
  fin_cases h
  · exact floatStoreForm_of_exec_single rfl rfl (exec_fstM32real m s)
  · exact floatStoreForm_of_exec_single rfl rfl (exec_fstpM32real m s)
  · exact floatStoreForm_of_exec_double rfl rfl (exec_fstM64real m s)
  · exact floatStoreForm_of_exec_double rfl rfl (exec_fstpM64real m s)
  · have hform : StoreForm m s (.fstpM80real m) .db 7 10 (doubleToExtended s.params (s.block.getST 0)).toNat true :=
      storeForm_of_exec (by decide) rfl rfl (exec_fstpM80real m s)
    exact hform.float rfl

/-- Settles O39: each form stores ST(0) as an integer of its width. -/
theorem integerStores : Obligations.IntegerStores := by
  intro m s i e op n v pops h
  change StoreForm m s i e op n v pops
  fin_cases h
  · exact storeForm_of_exec (by decide) rfl rfl (exec_fistM32int m s)
  · exact storeForm_of_exec (by decide) rfl rfl (exec_fistpM32int m s)
  · exact storeForm_of_exec (by decide) rfl rfl (exec_fistM16int m s)
  · exact storeForm_of_exec (by decide) rfl rfl (exec_fistpM16int m s)
  · exact storeForm_of_exec (by decide) rfl rfl (exec_fistpM64int m s)

end Sys2Proof.Machine
end

section
/-! PROOFS. The D9 group on ST(0) and ST(1) (spec R290 to R303). A form replaces ST(0), replaces ST(0) and pushes, pops
and replaces ST(0), or writes SW alone; a lemma per shape says what its transaction does, and each form then is its
format and its value. -/

namespace Sys2Proof.Machine

/-! ### A result for ST(0) -/

/-- A form that replaces ST(0) writes that slot and nothing else. -/
theorem replaceTop_of_exec {s : State} {i : Instr} {r : Option Double}
    (hexec : exec i s = .next ((s.setResult 0 r).patch 1)) :
    ∃ t, exec i s = .next t ∧ s.OutsideKept t ∧ s.OnlyPatched t 1 ∧ s.WritesSlot t s.block.top r s.block.sw := by
  obtain ⟨hslot, hout, hpatch⟩ := s.setResult_complete 0 r 1
  rw [Block.phys_zero] at hslot
  exact ⟨_, hexec, hout, hpatch, hslot⟩

/-- A write of a pattern is the write of a result that is no NaN to be drawn. -/
theorem State.setResult_some (s : State) (i : BitVec 3) (v : Double) :
    s.setResult i (some v) = s.onBlock (·.setST i v) := rfl

/-! ### Signs -/

theorem F64.neg_eq (x : Double) : F64.neg x = x ^^^ BitVec.twoPow 64 63 := rfl

theorem F64.abs_eq (x : Double) : F64.abs x = x &&& ~~~BitVec.twoPow 64 63 := rfl

/-- `neg` inverts bit 63 and keeps the others (spec R133). -/
theorem F64.getLsbD_neg (x : Double) (k : Nat) :
    (F64.neg x).getLsbD k = if k = 63 then !x.getLsbD k else x.getLsbD k := by
  rw [F64.neg_eq, BitVec.getLsbD_xor, BitVec.getLsbD_twoPow]
  split
  · next h => simp [h]
  · next h => simp [Ne.symm h]

/-- `abs` clears bit 63 and keeps the others (spec R133). -/
theorem F64.getLsbD_abs (x : Double) {k : Nat} (hk : k < 64) :
    (F64.abs x).getLsbD k = if k = 63 then false else x.getLsbD k := by
  rw [F64.abs_eq, BitVec.getLsbD_and, BitVec.getLsbD_not, BitVec.getLsbD_twoPow]
  split
  · next h => simp [h]
  · next h => simp [Ne.symm h, hk]

/-- Settles O43: both forms replace ST(0), and bit 63 is the one bit of the mask they apply. -/
theorem signOperations : Obligations.SignOperations := by
  intro s
  refine ⟨rfl, rfl, replaceTop_of_exec ?_, replaceTop_of_exec ?_, fun x k hk =>
    ⟨F64.getLsbD_neg x k, F64.getLsbD_abs x hk⟩⟩
  · rw [exec_fchs, State.setResult_some]
    rfl
  · rw [exec_fabs, State.setResult_some]
    rfl

/-! ### Test and examine -/

/-- The codes of FXAM by the fields of the pattern (spec R293). -/
theorem fxamCodes_eq (subnormal : SubnormalClass) (tag : Tag) (v : Double) :
    fxamCodes subnormal tag v =
      if tag = .empty then (true, false, true)
      else if v.extractLsb' 52 11 = 0x7FF#11 then
        (if v.extractLsb' 0 52 = 0#52 then (false, true, true) else (false, false, true))
      else if v.extractLsb' 0 63 = 0#63 then (true, false, false)
      else if v.extractLsb' 52 11 = 0#11 then
        (if subnormal = .normal then (false, true, false) else (true, true, false))
      else (false, true, false) := by
  have hfrac : v.extractLsb' 0 52 = 0#52 ↔ F64.frac v = 0 := by rw [← BitVec.toNat_inj]; rfl
  have hmax : v.extractLsb' 52 11 = 0x7FF#11 ↔ F64.expo v = 2047 := by rw [← BitVec.toNat_inj]; rfl
  have hmin : v.extractLsb' 52 11 = 0#11 ↔ F64.expo v = 0 := by rw [← BitVec.toNat_inj]; rfl
  simp only [← F64.isZero_iff, hfrac, hmax, hmin, fxamCodes]
  split
  · rfl
  by_cases hinf : F64.expo v = 2047
  · by_cases hf : F64.frac v = 0 <;> simp [F64.isNaN, F64.isInf, hinf, hf]
  by_cases hsub : F64.expo v = 0
  · by_cases hf : F64.frac v = 0
    · simp [F64.isNaN, F64.isInf, F64.isZero, hsub, hf]
    · cases subnormal <;> simp [F64.isNaN, F64.isInf, F64.isZero, F64.isSubnormal, hsub, hf]
  · simp [F64.isNaN, F64.isInf, F64.isZero, F64.isSubnormal, hinf, hsub]

theorem getLsbD_swFxam (sw : Word) (subnormal : SubnormalClass) (tag : Tag) (v : Double) (k : Nat) :
    (swFxam sw subnormal tag v).getLsbD k =
      if k = 9 then F64.sign v
      else if k = 8 then (fxamCodes subnormal tag v).2.2
      else if k = 10 then (fxamCodes subnormal tag v).2.1
      else if k = 14 then (fxamCodes subnormal tag v).1
      else sw.getLsbD k := by
  rw [swFxam, swSetC1, getLsbD_swWithBit, getLsbD_swSetC320]
  by_cases h : k = 9 <;> simp [h]

/-- Settles O44: both forms write SW alone, FXAM by its table (`fxamCodes_eq`) in the four condition codes. -/
theorem testAndExamine : Obligations.TestAndExamine := by
  intro s
  obtain ⟨houtT, hpatchT⟩ := s.onBlock_complete (fun b => b.compare (b.getST 0) (F64.zero false)) 1
  obtain ⟨houtX, hpatchX⟩ := s.onBlock_complete
    (fun b => { b with sw := swFxam b.sw s.params.fxamSubnormal (b.tag (b.phys 0)) (b.getST 0) }) 1
  refine ⟨rfl, rfl, ⟨_, exec_ftst s, houtT, hpatchT, ?_⟩, ⟨_, exec_fxam s, houtX, hpatchX, ?_⟩⟩
  · rw [State.patch_block, State.onBlock_block]
    rfl
  · rw [State.patch_block, State.onBlock_block]
    refine ⟨rfl, rfl, rfl, (getLsbD_swFxam ..).trans ?_, ?_, fun k h14 h10 h9 h8 => (getLsbD_swFxam ..).trans ?_⟩
    · rw [if_pos rfl, F64.sign, BitVec.msb_eq_getLsbD_last]
    · simp only [getLsbD_swFxam, Block.phys_zero, ← fxamCodes_eq]
      rfl
    · rw [if_neg h9, if_neg h8, if_neg h10, if_neg h14]

/-! ### A result for ST(0), then a push -/

/-- A write to ST(0) and a push: the first is ST(1) then (spec R32, R33). -/
theorem Block.setST_push_spec (b : Block) {c : Block} {v w : Double} (hc : c = (b.setST 0 v).push w) :
    c.getST 1 = v ∧ c.getST 0 = w ∧ c.tag b.top = tagOf v ∧ c.tag (b.top - 1) = tagOf w ∧
    b.SlotsKept c [b.top, b.top - 1] ∧ c.sw = swWithTop b.sw (b.top - 1) ∧ c.cw = b.cw := by
  subst hc
  have hne : b.top ≠ b.top - 1 := fun h => absurd (sub_eq_self.1 h.symm) (by decide)
  refine ⟨?_, ?_, ?_, ?_, ?_, rfl, rfl⟩
  · rw [getST, phys, top_push, top_setST, sub_add_cancel, reg_push, top_setST, if_neg hne, ← phys_zero, reg_setST_phys]
  · rw [getST, phys_zero, top_push, reg_push, if_pos rfl]
  · rw [tag_push, top_setST, if_neg hne, ← phys_zero, tag_setST_phys]
  · rw [tag_push, top_setST, if_pos rfl]
  · have hkept := (b.slotsKept_setST 0 v).trans ((b.setST 0 v).slotsKept_push w)
    rwa [phys_zero, top_setST] at hkept

/-! ### A pop, then a result for ST(0) -/

/-- ST(0) after a pop was ST(1). -/
theorem Block.getST_zero_pop (b : Block) : b.pop.getST 0 = b.getST 1 := by
  rw [getST, phys_zero, top_pop, reg_pop, getST, phys]

/-- A pop and a write to ST(0): the popped slot keeps its value (spec R32, R34). -/
theorem Block.pop_setST_spec (b : Block) {c : Block} {v : Double} (hc : c = b.pop.setST 0 v) :
    c.getST 0 = v ∧ c.tag (b.top + 1) = tagOf (c.getST 0) ∧ c.tag b.top = .empty ∧ c.reg b.top = b.reg b.top ∧
    b.SlotsKept c [b.top, b.top + 1] ∧ c.sw = swWithTop b.sw (b.top + 1) ∧ c.cw = b.cw := by
  subst hc
  have hne : b.top ≠ b.pop.phys 0 := by rw [phys_zero, top_pop]; simp
  have hget : (b.pop.setST 0 v).getST 0 = v := reg_setST_phys ..
  refine ⟨hget, ?_, ?_, ?_, ?_, rfl, rfl⟩
  · rw [hget, ← top_pop, ← phys_zero, tag_setST_phys]
  · rw [tag_setST, if_neg hne, tag_pop, if_pos rfl]
  · rw [reg_setST, if_neg hne, reg_pop]
  · have hkept := b.slotsKept_pop.trans (b.pop.slotsKept_setST 0 v)
    rwa [phys_zero, top_pop] at hkept

/-- What O45 (of FPATAN) and O46 say of one form: a transaction that pops and writes the result to the new ST(0). -/
def State.PopReplaces (s : State) (i : Instr) (r : Option Double) : Prop :=
  ∃ t, exec i s = .next t ∧ s.OutsideKept t ∧ s.OnlyPatched t 1 ∧
    Gives r (t.block.getST 0) ∧ t.block.tag (s.block.top + 1) = tagOf (t.block.getST 0) ∧
    t.block.tag s.block.top = .empty ∧ t.block.reg s.block.top = s.block.reg s.block.top ∧
    s.block.SlotsKept t.block [s.block.top, s.block.top + 1] ∧
    t.block.sw = swWithTop s.block.sw (s.block.top + 1) ∧ t.block.cw = s.block.cw

/-- A form that leaves the block popped, with a pattern of the result `r` in ST(0). -/
theorem popReplaces_of_exec {s t : State} {i : Instr} {r : Option Double} {v : Double}
    (hexec : exec i s = .next (t.patch 1)) (hmem : t.mem = s.mem) (hguest : t.guest = s.guest)
    (hparams : t.params = s.params) (htrans : t.inTransaction = s.inTransaction)
    (hblock : t.block = s.block.pop.setST 0 v) (hv : Gives r v) : s.PopReplaces i r := by
  obtain ⟨hout, hpatch⟩ := State.kept_complete hmem hguest hparams htrans 1
  obtain ⟨hget, hspec⟩ := s.block.pop_setST_spec hblock
  refine ⟨_, hexec, hout, hpatch, ?_⟩
  rw [State.patch_block]
  exact ⟨hget ▸ hv, hspec⟩

/-! ### The transcendental functions -/

/-- Settles O45: F2XM1 replaces ST(0), FPTAN pushes after it, and FPATAN replaces it after a pop. -/
theorem transcendentals : Obligations.Transcendentals := by
  intro s
  refine ⟨rfl, rfl, rfl, replaceTop_of_exec (exec_f2xm1 s), ⟨_, exec_fptan s, ?_⟩, ?_⟩
  · obtain ⟨hout, hpatch⟩ := State.kept_complete (s := s)
      (t := (s.setResult 0 (Tr.tan s.params.tr (s.block.getST 0))).onBlock fun b => b.push F64.oneDouble)
      (by simp) (by simp) (by simp) (by simp) 1
    obtain ⟨hget1, hget0, htag, htag0, hspec⟩ := s.block.setST_push_spec
      (v := s.settle (Tr.tan s.params.tr (s.block.getST 0))) (w := F64.oneDouble) rfl
    refine ⟨hout, hpatch, ?_⟩
    rw [State.patch_block, State.onBlock_block, State.setResult_block, hget1]
    exact ⟨s.gives_settle _, htag, hget0, htag0, hspec⟩
  · refine popReplaces_of_exec (exec_fpatan s) (by simp) (by simp) (by simp) (by simp)
      (State.setResult_block ..) ?_
    rw [State.onBlock_block, Block.getST_zero_pop]
    exact State.gives_settle _ _

/-- An operation that carries a NaN operand, on a settled result (spec R132). -/
theorem State.apply_settle (s : State) {f : Double → Option Double} (hf : ∀ {v}, F64.isNaN v = true → f v = none)
    (r : Option Double) : f (s.settle r) = r.bind f := by
  cases r with
  | none => exact hf (s.gives_settle none)
  | some v => rfl

/-- A form that runs `popTimesLog` (spec R295, R300). -/
theorem logProduct_of_exec {s : State} {i : Instr} {log : Option Double}
    (hexec : exec i s = .next ((s.popTimesLog log).patch 1)) :
    s.PopReplaces i (log.bind (F64.mul (s.block.getST 1))) := by
  obtain ⟨hmem, hguest, hparams, htrans⟩ := s.popTimesLog_kept log
  refine popReplaces_of_exec hexec hmem hguest hparams htrans
    (v := ((s.settled log).onBlock Block.pop).settle (F64.mul (s.block.pop.getST 0) (s.settle log))) ?_ ?_
  · simp only [State.popTimesLog, State.setResult_block, State.onBlock_block, State.settled_block]
  · rw [Block.getST_zero_pop, s.apply_settle (F64.mul_nan_right _)]
    exact State.gives_settle _ _

/-- Settles O46: both forms are `popTimesLog`. -/
theorem logProducts : Obligations.LogProducts := by
  intro s i op rm log h
  fin_cases h
  · exact ⟨rfl, logProduct_of_exec (exec_fyl2x s)⟩
  · exact ⟨rfl, logProduct_of_exec (exec_fyl2xp1 s)⟩

/-! ### FPREM -/

/-- A change of SW touches no slot. -/
theorem State.WritesSlot.onBlock_sw {s t : State} {p : BitVec 3} {r : Option Double} {sw : Word}
    (h : s.WritesSlot t p r sw) (g : Word → Word) :
    s.WritesSlot (t.onBlock fun b => { b with sw := g b.sw }) p r (g sw) := by
  obtain ⟨hgives, htag, hkept, hsw, hcw⟩ := h
  exact ⟨hgives, htag, hkept, congrArg g hsw, hcw⟩

theorem swSetC2_false (sw : Word) : swSetC2 sw false = sw &&& ~~~(0x0400 : Word) := rfl

/-- Settles O48: FPREM replaces ST(0) and then clears C2, SW bit 10. -/
theorem fprem : Obligations.Fprem := by
  intro s
  have hslot := (s.writesSlot_setResult 0 (F64.rem (s.block.getST 0) (s.block.getST 1))).onBlock_sw (swSetC2 · false)
  obtain ⟨hout, hpatch⟩ := State.kept_complete (s := s)
    (t := (s.setResult 0 (F64.rem (s.block.getST 0) (s.block.getST 1))).onBlock fun b =>
      { b with sw := swSetC2 b.sw false }) (by simp) (by simp) (by simp) (by simp) 1
  rw [Block.phys_zero, swSetC2_false] at hslot
  exact ⟨rfl, _, exec_fprem s, hout, hpatch, hslot.patch 1⟩

end Sys2Proof.Machine
end

section
/-! PROOFS. FXTRACT (spec R138, R298). The significand of a finite nonzero number is a multiple of 2^1022 units below
2^1075, so that it is a number of the format; the exponent is a small integer. -/

namespace Sys2Proof.Machine

/-! ### Exponent and significand -/

section
variable {x : Double} (hz : F64.isZero x = false)
include hz

theorem F64.two_pow_log2_units_le : 2 ^ Nat.log2 (F64.units x) ≤ F64.units x :=
  Nat.log2_self_le (F64.units_pos hz).ne'

/-- A number has at most 53 bits above the unit of its exponent. -/
theorem F64.log2_units_le : Nat.log2 (F64.units x) ≤ 52 + (F64.expo x - 1) := by
  have hlt : Nat.log2 (F64.units x) < 53 + (F64.expo x - 1) :=
    (Nat.log2_lt (F64.units_pos hz).ne').2 (F64.units_lt x)
  omega

/-- The exponent is `floor(log2 |x|)`, exactly (spec R138). -/
theorem F64.value_logb :
    F64.value (F64.logb x) = ((Nat.log2 (F64.units x) : Int) - 1074) * (F64.one : Int) := by
  have hlog := F64.log2_units_le hz
  have hexpo : F64.expo x < 2 ^ 11 := BitVec.isLt _
  exact F64.value_ofInt (by omega)

/-- The magnitude over the power of two of its exponent is a whole number of 2^1022 units. -/
theorem F64.two_pow_dvd_units_mul_one :
    2 ^ (1022 + Nat.log2 (F64.units x)) ∣ F64.units x * F64.one := by
  have hlog := F64.log2_units_le hz
  calc 2 ^ (1022 + Nat.log2 (F64.units x))
      ∣ 2 ^ ((F64.expo x - 1) + 1074) := Nat.pow_dvd_pow 2 (by omega)
    _ = 2 ^ (F64.expo x - 1) * F64.one := by rw [F64.one_eq, pow_add]
    _ ∣ F64.units x * F64.one := Nat.mul_dvd_mul_right (F64.two_pow_dvd_units x) _

/-- The significand's rounding is exact (spec R138). -/
theorem F64.units_signif_mul :
    F64.units (F64.signif x) * 2 ^ Nat.log2 (F64.units x) = F64.units x * F64.one := by
  obtain ⟨m, hm⟩ := F64.two_pow_dvd_units_mul_one hz
  have hsplit : F64.units x * F64.one = 2 ^ 1022 * m * 2 ^ Nat.log2 (F64.units x) := by
    rw [hm, pow_add, Nat.mul_right_comm]
  have hlt : 2 ^ 1022 * m < 2 ^ (53 + 1022) := by
    refine Nat.lt_of_mul_lt_mul_right (a := 2 ^ Nat.log2 (F64.units x)) ?_
    calc 2 ^ 1022 * m * 2 ^ Nat.log2 (F64.units x) = F64.units x * F64.one := hsplit.symm
      _ < 2 ^ (Nat.log2 (F64.units x) + 1) * F64.one := Nat.mul_lt_mul_of_pos_right Nat.lt_log2_self F64.one_pos
      _ = 2 ^ (Nat.log2 (F64.units x) + 1 + 1074) := by rw [F64.one_eq, pow_add _ (_ + 1)]
      _ = 2 ^ (53 + 1022 + Nat.log2 (F64.units x)) := congrArg (2 ^ ·) (by omega)
      _ = 2 ^ (53 + 1022) * 2 ^ Nat.log2 (F64.units x) := pow_add ..
  have hround : F64.signif x = F64.round (F64.sign x) (2 ^ 1022 * m) 1 := by
    have hcancel := F64.round_mul_right (F64.sign x) (2 ^ 1022 * m) 1 (Nat.two_pow_pos (Nat.log2 (F64.units x)))
    rwa [← hsplit, Nat.one_mul] at hcancel
  rw [hround, F64.units_round_of_dvd _ (Nat.dvd_mul_right ..) hlt.le (hlt.trans (by decide +kernel)), hsplit]

theorem F64.one_le_units_signif : F64.one ≤ F64.units (F64.signif x) := by
  refine Nat.le_of_mul_le_mul_right ?_ (Nat.two_pow_pos (Nat.log2 (F64.units x)))
  rw [F64.units_signif_mul hz, Nat.mul_comm]
  exact Nat.mul_le_mul_right _ (F64.two_pow_log2_units_le hz)

theorem F64.units_signif_lt : F64.units (F64.signif x) < 2 * F64.one := by
  refine Nat.lt_of_mul_lt_mul_right (a := 2 ^ Nat.log2 (F64.units x)) ?_
  rw [F64.units_signif_mul hz, Nat.mul_right_comm, ← pow_succ']
  exact Nat.mul_lt_mul_of_pos_right Nat.lt_log2_self F64.one_pos

end

theorem F64.sign_signif (x : Double) : F64.sign (F64.signif x) = F64.sign x := F64.sign_round ..

theorem F64.value_signif_mul {x : Double} (hz : F64.isZero x = false) :
    F64.value (F64.signif x) * 2 ^ Nat.log2 (F64.units x) = F64.value x * (F64.one : Int) := by
  have hunits : (F64.units (F64.signif x) : Int) * 2 ^ Nat.log2 (F64.units x) = F64.units x * F64.one := by
    exact_mod_cast F64.units_signif_mul hz
  rw [F64.value, F64.value, F64.sign_signif]
  split
  · rw [Int.neg_mul, Int.neg_mul, hunits]
  · exact hunits

/-! ### The instruction -/

/-- What FXTRACT of `x` writes to ST(1) and ST(0); of a NaN or an infinity nothing is said (spec R298). -/
def FxtractGives (x exponent significand : Double) : Prop :=
  F64.isNaN x = false → F64.isInf x = false →
    (F64.isZero x = true → exponent = 0xFFF0000000000000 ∧ significand = 0) ∧
    (F64.isZero x = false → exponent = F64.logb x ∧ significand = F64.signif x)

/-- Every case of the rule replaces ST(0) and pushes, after the draws it takes (spec R298). -/
theorem exec_fxtract_setST_push (s : State) :
    ∃ (n : Nat) (v w : Double),
      exec .fxtract s = .next (((s.drawn n).onBlock fun b => (b.setST 0 v).push w).patch 1) ∧
      FxtractGives (s.block.getST 0) v w := by
  rw [exec_fxtract]
  by_cases hfree : (F64.isNaN (s.block.getST 0) || F64.isInf (s.block.getST 0)) = true
  · refine ⟨2, s.freeValue, (s.drawn 1).freeValue, by rw [if_pos hfree], fun hn hi => ?_⟩
    rw [hn, hi] at hfree
    exact absurd hfree Bool.false_ne_true
  · by_cases hz : F64.isZero (s.block.getST 0) = true
    · exact ⟨0, F64.inf true, F64.zero false, by rw [if_neg hfree, if_pos hz]; rfl, fun _ _ =>
        ⟨fun _ => ⟨rfl, rfl⟩, fun h => absurd (h.symm.trans hz) Bool.false_ne_true⟩⟩
    · exact ⟨0, F64.logb (s.block.getST 0), F64.signif (s.block.getST 0), by rw [if_neg hfree, if_neg hz]; rfl,
        fun _ _ => ⟨fun h => absurd h hz, fun _ => ⟨rfl, rfl⟩⟩⟩

/-- Settles O47: the significand is exact (`units_signif_mul`), and every case of the rule replaces ST(0) and pushes
(`exec_fxtract_setST_push`). -/
theorem fxtract : Obligations.Fxtract := by
  refine ⟨fun x _ _ hz => ⟨Nat.log2 (F64.units x), F64.two_pow_log2_units_le hz, Nat.lt_log2_self, F64.value_logb hz,
    F64.value_signif_mul hz, F64.sign_signif x, F64.one_le_units_signif hz, F64.units_signif_lt hz⟩, fun s => ?_⟩
  obtain ⟨n, v, w, hexec, hvalues⟩ := exec_fxtract_setST_push s
  obtain ⟨hout, hpatch⟩ := State.kept_complete (s := s)
    (t := (s.drawn n).onBlock fun b => (b.setST 0 v).push w) rfl rfl rfl rfl 1
  obtain ⟨hget1, hget0, htag, htag0, hspec⟩ := s.block.setST_push_spec (v := v) (w := w) rfl
  refine ⟨rfl, _, hexec, hout, hpatch, ?_⟩
  rw [State.patch_block, State.onBlock_block, State.drawn_block, hget1, hget0]
  exact ⟨hvalues, htag, htag0, hspec⟩

end Sys2Proof.Machine
end

section
/-! PROOFS. FSQRT, FRNDINT and FSCALE, `rint` and the default `scaleFn` (spec R135, R137, R301 to R303). -/

namespace Sys2Proof.Machine

/-! ### rint -/

/-- The magnitude of `rint`: that of x rounded to a whole number. -/
def F64.rintUnits (x : Double) : Nat := rne (F64.units x) F64.one * F64.one

/-- The magnitude of a whole number is kept. -/
theorem F64.rintUnits_of_one_dvd {x : Double} (h : F64.one ∣ F64.units x) : F64.rintUnits x = F64.units x := by
  obtain ⟨m, hm⟩ := h
  rw [F64.rintUnits, hm, Nat.mul_comm F64.one, rne_mul_self m F64.one_pos]

/-- The result of `rint` is at most 2^53, or the whole number x is. -/
theorem F64.rintUnits_le_or_eq (x : Double) : F64.rintUnits x ≤ 2 ^ 53 * F64.one ∨ F64.rintUnits x = F64.units x := by
  by_cases hexp : 1074 ≤ F64.expo x - 1
  · refine .inr (F64.rintUnits_of_one_dvd ?_)
    rw [F64.one_eq]
    exact (pow_dvd_pow 2 hexp).trans (F64.two_pow_dvd_units x)
  · refine .inl (Nat.mul_le_mul_right _ (rne_le F64.one_pos ?_))
    calc F64.units x ≤ 2 ^ (53 + (F64.expo x - 1)) := (F64.units_lt x).le
      _ ≤ 2 ^ (53 + 1074) := pow_le_pow_right₀ one_le_two (by omega)
      _ = 2 ^ 53 * F64.one := by rw [pow_add, F64.one_eq]

/-- The rounded value of `rint` (spec R135). -/
def F64.rintRounded (x : Double) : Double := F64.round (F64.sign x) (F64.rintUnits x) 1

section
variable {x : Double} (hn : F64.isNaN x = false) (hi : F64.isInf x = false)
include hn hi

theorem F64.rint_of_finite : F64.rint x = some (F64.rintRounded x) := by
  simp only [F64.rint, hn, hi, Bool.false_eq_true, if_false]
  rfl

theorem F64.rintUnits_lt : F64.rintUnits x < (2 ^ 54 - 1) * 2 ^ 2044 := by
  obtain hle | heq := F64.rintUnits_le_or_eq x
  · exact hle.trans_lt (by decide +kernel)
  · exact heq ▸ F64.units_lt_of_finite hn hi

/-- A whole number is a number of the format. -/
theorem F64.units_rintRounded : F64.units (F64.rintRounded x) = F64.rintUnits x := by
  obtain hle | heq := F64.rintUnits_le_or_eq x
  · rw [F64.one_eq, ← pow_add] at hle
    refine F64.units_round_of_dvd _ (k := 1074) ?_ hle (F64.rintUnits_lt hn hi)
    rw [← F64.one_eq]
    exact Nat.dvd_mul_left ..
  · have hround := F64.round_units hn Nat.one_pos
    rw [Nat.mul_one] at hround
    rw [F64.rintRounded, heq, hround]

theorem F64.value_rintRounded : F64.value (F64.rintRounded x) = F64.toInt x * (F64.one : Int) := by
  rw [F64.rintRounded, F64.value_round, ← F64.rintRounded, F64.units_rintRounded hn hi, F64.rintUnits, F64.toInt,
    Nat.cast_mul]
  split
  · rw [Int.neg_mul]
  · rfl

theorem F64.isInf_rintRounded : F64.isInf (F64.rintRounded x) = false := by
  rw [Bool.eq_false_iff, Ne, F64.rintRounded, F64.isInf_round_iff _ _ Nat.one_pos, Nat.mul_one]
  exact (F64.rintUnits_lt hn hi).not_ge

/-- `rint` of a number: the nearest whole number, ties to even, with the sign of x (spec R135). -/
theorem F64.rint_spec :
    ∃ (r : Double) (k : Int), F64.rint x = some r ∧ k = F64.toInt x ∧ F64.value r = k * (F64.one : Int) ∧
      F64.sign r = F64.sign x ∧ F64.isNaN r = false ∧ F64.isInf r = false ∧
      2 * (F64.value x - F64.value r).natAbs ≤ F64.one ∧
      (2 * (F64.value x - F64.value r).natAbs = F64.one → k % 2 = 0) := by
  obtain ⟨hhalf, heven⟩ := integerConversion.1 x hn hi
  rw [← F64.value_rintRounded hn hi] at hhalf heven
  exact ⟨F64.rintRounded x, F64.toInt x, F64.rint_of_finite hn hi, rfl, F64.value_rintRounded hn hi,
    F64.sign_round .., F64.isNaN_round .., F64.isInf_rintRounded hn hi, hhalf, heven⟩

end

theorem F64.rint_nan {x : Double} (h : F64.isNaN x = true) : F64.rint x = none := by
  rw [F64.rint, if_pos h]

theorem F64.rint_inf {x : Double} (h : F64.isInf x = true) : F64.rint x = some x := by
  simp [F64.rint, h, F64.isNaN_of_isInf h]

/-! ### The default scaleFn -/

/-- A magnitude below half a unit is rounded to zero. -/
theorem F64.round_eq_zero (s : Bool) {n d : Nat} (h : 2 * n < d) : F64.round s n d = F64.zero s := by
  have hdiv : n / d = 0 := Nat.div_eq_of_lt (by omega)
  have hrne : rne n d = 0 := by
    rw [rne, Nat.mod_eq_of_lt (by omega), hdiv, if_neg (by omega)]
  rw [F64.round, roundMag, roundExp, hdiv, F64.zero]
  simp [hrne]

theorem F64.round_eq_inf (s : Bool) {n d : Nat} (hd : 0 < d) (h : (2 ^ 54 - 1) * 2 ^ 2044 * d ≤ n) :
    F64.round s n d = F64.inf s := by
  have hinf := F64.eq_inf ((F64.isInf_round_iff s n hd).2 h)
  rwa [F64.sign_round] at hinf

/-- From 2^-4096 on down a scaled number is a zero. -/
theorem F64.round_div_two_pow {x : Double} (hn : F64.isNaN x = false) (hi : F64.isInf x = false) {n : Nat}
    (h : 4096 ≤ n) : F64.round (F64.sign x) (F64.units x) (2 ^ n) = F64.zero (F64.sign x) := by
  refine F64.round_eq_zero _ ?_
  calc 2 * F64.units x ≤ 2 * ((2 ^ 54 - 1) * 2 ^ 2044) := Nat.mul_le_mul_left _ (F64.units_lt_of_finite hn hi).le
    _ < 2 ^ 4096 := by decide +kernel
    _ ≤ 2 ^ n := pow_le_pow_right₀ one_le_two h

/-- From 2^4096 on up a scaled number is an infinity. -/
theorem F64.round_mul_two_pow {x : Double} (hz : F64.isZero x = false) {n : Nat} (h : 4096 ≤ n) :
    F64.round (F64.sign x) (F64.units x * 2 ^ n) 1 = F64.inf (F64.sign x) := by
  refine F64.round_eq_inf _ Nat.one_pos ?_
  calc (2 ^ 54 - 1) * 2 ^ 2044 * 1 ≤ 2 ^ 4096 := by decide +kernel
    _ ≤ 2 ^ n := pow_le_pow_right₀ one_le_two h
    _ ≤ F64.units x * 2 ^ n := Nat.le_mul_of_pos_left _ (F64.units_pos hz)

theorem scaleCount_eq {y : Double} {n : Nat} (hle : n * F64.one ≤ F64.units y)
    (hlt : F64.units y < (n + 1) * F64.one) : scaleCount y = min n 4096 := by
  rw [scaleCount, Nat.div_eq_of_lt_le hle hlt]

/-- A function of the count that is constant from 4096 on does not see the cut. -/
theorem apply_min_4096 {α : Type} {f : Nat → α} {c : α} (hf : ∀ {n}, 4096 ≤ n → f n = c) (n : Nat) :
    f (min n 4096) = f n := by
  obtain h | h := Nat.le_total n 4096
  · rw [Nat.min_eq_left h]
  · rw [Nat.min_eq_right h, hf le_rfl, hf h]

theorem F64.scale_nan {x y : Double} (h : F64.isNaN x = true ∨ F64.isNaN y = true) :
    F64.scale .reference x y = none := by
  rw [← Bool.or_eq_true] at h
  rw [F64.scale, F64.scaleReference, if_pos h]

section
variable {x y : Double}

theorem F64.scale_inf (hx : F64.isNaN x = false) (hy : F64.isInf y = true) : F64.scale .reference x y =
    if F64.sign y then (if F64.isInf x then none else some (F64.zero (F64.sign x)))
    else (if F64.isZero x then none else some (F64.inf (F64.sign x))) := by
  simp only [F64.scale, F64.scaleReference, hx, F64.isNaN_of_isInf hy, hy, Bool.or_self, Bool.false_eq_true, if_false,
    if_true]

variable (hny : F64.isNaN y = false) (hiy : F64.isInf y = false)
include hny hiy

/-- A zero or an infinity is kept. -/
theorem F64.scale_of_zero_or_inf (h : F64.isZero x = true ∨ F64.isInf x = true) :
    F64.scale .reference x y = some x := by
  have hx : F64.isNaN x = false := h.elim F64.isNaN_of_isZero F64.isNaN_of_isInf
  rw [← Bool.or_eq_true] at h
  simp only [F64.scale, F64.scaleReference, hx, hny, hiy, h, Bool.or_self, Bool.false_eq_true, if_false, if_true]

/-- A finite nonzero number is scaled by 2^n or 2^-n and rounded once, n however large. -/
theorem F64.scale_of_finite (hn : F64.isNaN x = false) (hi : F64.isInf x = false) (hz : F64.isZero x = false) {n : Nat}
    (hle : n * F64.one ≤ F64.units y) (hlt : F64.units y < (n + 1) * F64.one) :
    F64.scale .reference x y = some (if F64.sign y then F64.round (F64.sign x) (F64.units x) (2 ^ n)
      else F64.round (F64.sign x) (F64.units x * 2 ^ n) 1) := by
  rw [← apply_min_4096 (f := fun n => F64.round (F64.sign x) (F64.units x) (2 ^ n)) (F64.round_div_two_pow hn hi) n,
    ← apply_min_4096 (f := fun n => F64.round (F64.sign x) (F64.units x * 2 ^ n) 1) (F64.round_mul_two_pow hz) n,
    ← scaleCount_eq hle hlt]
  simp only [F64.scale, F64.scaleReference, hn, hny, hi, hiy, hz, Bool.or_self, Bool.false_eq_true, if_false]
  split <;> rfl

end

/-! ### The instructions -/

/-- Settles O49: a rounded whole number is exact (`rint_spec`), the model's cut of n is invisible (`apply_min_4096`), and
the three forms replace ST(0). -/
theorem rootRoundScale : Obligations.RootRoundScale := by
  refine ⟨fun x => ⟨F64.rint_nan, F64.rint_inf, F64.rint_spec⟩, rfl,
    fun x y => ⟨F64.scale_nan, fun hx hy hs => ?_, fun hx hy hs => ?_, F64.scale_of_zero_or_inf,
      fun hny hiy hn hi hz n => F64.scale_of_finite hny hiy hn hi hz⟩, fun s i rm r h => ?_⟩
  · rw [F64.scale_inf hx hy, if_neg (Bool.eq_false_iff.1 hs)]
  · rw [F64.scale_inf hx hy, if_pos hs]
  · fin_cases h
    · exact ⟨rfl, replaceTop_of_exec (exec_fsqrt s)⟩
    · exact ⟨rfl, replaceTop_of_exec (exec_frndint s)⟩
    · exact ⟨rfl, replaceTop_of_exec (exec_fscale s)⟩

end Sys2Proof.Machine
end

section
/-! PROOFS. Control (spec R178, R321 to R341): the ignored combinations, the changes of the block alone, and the loads
and stores of the control words and the environment. -/

namespace Sys2Proof.Machine

/-! ### The ignored combinations -/

/-- The map and spec R340's list agree on every operand: register forms by their op and rm, memory forms by their op. -/
theorem isIgnored_instrOf (e : Esc) (d : Descriptor) :
    (instrOf e d).isIgnored = ignoredCombination e d.op d.operand := by
  obtain ⟨op, rm | m⟩ := d
  · revert op rm
    cases e <;> decide
  · revert op
    cases e <;> exact forall_bitVec3.2 ⟨rfl, rfl, rfl, rfl, rfl, rfl, rfl, rfl⟩

/-- An ignored row is the patch alone (spec R341): `cases h` leaves just the rows `isIgnored` names. -/
theorem exec_of_isIgnored {i : Instr} (h : i.isIgnored = true) (s : State) :
    exec i s = .next (s.patch i.skipTotal) := by
  cases i <;> cases h <;> rfl

/-- A DD register form under `ddRegForms = ignored` is the patch alone (spec R340). -/
theorem exec_ddRegForm_of_ignored {s : State} (h : s.params.ddRegForms = .ignored) {i : Instr} {j : BitVec 3}
    (hi : i = .ffreeSti j ∨ i = .fstSti j ∨ i = .fstpSti j) : exec i s = .next (s.patch i.skipTotal) := by
  have hstd : s.params.ddRegForms ≠ .standard := by simp [h]
  obtain rfl | rfl | rfl := hi
  · rw [exec_ffreeSti, if_neg hstd]; rfl
  · rw [exec_fstSti, if_neg hstd]; rfl
  · rw [exec_fstpSti, if_neg hstd]; rfl

/-- Settles O14: the list is `isIgnored_instrOf`, and each combination on it is the patch alone. -/
theorem ignoredCombinations : Obligations.IgnoredCombinations := by
  refine ⟨isIgnored_instrOf, fun i s h => ?_⟩
  have hexec : exec i s = .next (s.patch i.skipTotal) := by
    obtain hrow | ⟨hparam, j, hform⟩ := h
    · exact exec_of_isIgnored hrow s
    · exact exec_ddRegForm_of_ignored hparam hform
  exact ⟨_, hexec, s.patch_block _, State.kept_complete rfl rfl rfl rfl _⟩

/-! ### Changes of the block alone -/

/-- A transaction that changes the block by `f` and stores nothing. -/
theorem blockForm_of_exec {s : State} {i : Instr} {f : Block → Block} {k : Nat}
    (hexec : exec i s = .next ((s.onBlock f).patch k)) :
    ∃ t, exec i s = .next t ∧ s.OutsideKept t ∧ s.OnlyPatched t k ∧ t.block = f s.block := by
  obtain ⟨hout, hpatch⟩ := s.onBlock_complete f k
  exact ⟨_, hexec, hout, hpatch, State.patch_block ..⟩

/-- FCLEX clears SW bits 7..0 and 15: the complement of its mask is 80FF (spec R39). -/
theorem Block.clearExceptions_eq (b : Block) : b.clearExceptions = { b with sw := b.sw &&& ~~~(0x80FF : Word) } := rfl

/-! ### FSTSW AX and FWAIT -/

/-- FSTSW AX writes AX alone, and RetIP stands where it stood (spec R334). -/
theorem onlyPatched_fstswAx (s : State) :
    s.OnlyPatched (State.patch { s with guest := { s.guest with ax := s.block.sw } } 1) 1 :=
  ⟨State.patch_retIP .., fun _ ha => State.patch_read_other _ _ ha⟩

theorem State.toNat_read16 (s : State) (seg off : Word) : (s.read16 seg off).toNat = s.readLE seg off 2 := by
  have hlo := (s.read8 seg off).isLt
  have hhi := (s.read8 seg (off + 1)).isLt
  simp only [read16, readLE, BitVec.toNat_ofNat]
  omega

/-- Bytes written back where they were read leave memory as it was. -/
theorem State.writeLE_readLE_read (s : State) (seg off : Word) (n a : Nat) :
    (s.writeLE seg off n (s.readLE seg off n)).mem.read a = s.mem.read a := by
  induction n generalizing s off with
  | zero => rfl
  | succ n ih =>
    have hlo := (s.read8 seg off).isLt
    have hbyte : BitVec.ofNat 8 (s.readLE seg off (n + 1)) = s.read8 seg off := by
      apply BitVec.eq_of_toNat_eq
      rw [BitVec.toNat_ofNat, readLE]
      omega
    have hrest : s.readLE seg off (n + 1) / 256 = s.readLE seg (off + 1) n := by
      rw [readLE]
      omega
    have hsame : ∀ c, (s.write8 seg off (s.read8 seg off)).mem.read c = s.mem.read c := fun c => by
      rw [write8_mem, Memory.read_write, read8]
      split
      · next h => rw [h]
      · rfl
    rw [writeLE, hbyte, hrest, ← readLE_congr fun c _ => hsame c, ih, hsame]

/-- A patch by zero, which is all FWAIT does (spec R178), writes RetIP back. -/
theorem State.patch_zero_read (s : State) (a : Nat) : (s.patch 0).mem.read a = s.mem.read a := by
  rw [patch, BitVec.add_zero, setRetIP, retIP, write16, toNat_read16, writeLE_readLE_read]

/-- Settles O50: FNOP, FDECSTP, FINCSTP and FCLEX change the block by one operation each, FINIT resets it, FSTSW AX
writes AX beside the patch, and FWAIT patches by zero. -/
theorem stackControl : Obligations.StackControl := by
  refine ⟨fun s i e op rm sw h => ?_, fun s => ⟨rfl, ?_⟩, fun s => ⟨rfl, ?_⟩, fun s => ⟨rfl, ?_⟩⟩
  · fin_cases h
    · exact ⟨rfl, blockForm_of_exec (f := id) (exec_fnop s)⟩
    · exact ⟨rfl, blockForm_of_exec (exec_fdecstp s)⟩
    · exact ⟨rfl, blockForm_of_exec (exec_fincstp s)⟩
    · exact ⟨rfl, s.block.clearExceptions_eq ▸ blockForm_of_exec (exec_fclex s)⟩
  · obtain ⟨hout, hpatch⟩ := State.kept_complete (s := s) (t := ruleOf .finit s) rfl rfl rfl rfl 1
    refine ⟨_, exec_finit s, hout, hpatch, ?_⟩
    rw [State.patch_block, State.onBlock_block]
    exact ⟨rfl, rfl, by simp [Block.reset, Block.tag]⟩
  · exact ⟨_, exec_fstswAx s, by simp, by simp, by simp, by simp, onlyPatched_fstswAx s⟩
  · exact ⟨_, exec_rule .fwait s, ⟨s.patch_guest 0, s.patch_params 0, s.patch_inTransaction 0⟩, s.patch_block 0,
      (s.patch_retIP 0).trans (add_zero _), s.patch_zero_read⟩

/-! ### Loads of control words -/

/-- TAG[p] of a loaded TW has the code in its field (spec R29, R325). -/
theorem Block.code_tag_withEnvironment (b : Block) (cw sw tw : Word) (p : BitVec 3) :
    ((b.withEnvironment cw sw tw).tag p).code = tw.extractLsb' (2 * p.toNat) 2 := by
  simp only [tag, withEnvironment_tags, tagsOfWord, Vector.getElem_ofFn, Tag.code_ofCode]

/-- Settles O51: both loads change the block alone; the tags are the fields of the loaded TW. -/
theorem controlLoads : Obligations.ControlLoads := by
  intro m s
  obtain ⟨t, hexec, hout, hpatch, hblock⟩ := blockForm_of_exec (exec_fldenvM14 m s)
  refine ⟨rfl, rfl, blockForm_of_exec (exec_fldcwM16 m s), t, hexec, hout, hpatch, ?_⟩
  rw [hblock]
  exact ⟨rfl, rfl, Block.code_tag_withEnvironment _ _ _ _, rfl⟩

/-! ### Stores of control words -/

/-- CW, SW and TW are the low 48 bits of the environment and the rest is zero (spec R326). -/
theorem wordsValue_environment (b : Block) :
    wordsValue b.environment = b.cw.toNat + 2 ^ 16 * b.sw.toNat + 2 ^ 32 * (tagWord b.tags).toNat := by
  have hzero : (0 : Word).toNat = 0 := rfl
  simp only [Block.environment, wordsValue, hzero]
  omega

theorem exec_fstenvM14_store (m : MemOperand) (s : State) : exec (.fstenvM14 m) s =
    .next ((s.store m 14 (s.block.cw.toNat + 2 ^ 16 * s.block.sw.toNat +
      2 ^ 32 * (tagWord s.block.tags).toNat)).patch m.skip) := by
  rw [exec_fstenvM14, State.storeWords_eq, wordsValue_environment]
  rfl

/-- Settles O52: each form is one data store, without a pop. -/
theorem controlStores : Obligations.ControlStores := by
  intro m s i e op n v h
  change StoreForm m s i e op n v false
  fin_cases h
  · exact storeForm_of_exec (by decide) rfl rfl (exec_fstenvM14_store m s)
  · exact storeForm_of_exec (by decide) rfl rfl (exec_fstcwM16 m s)
  · exact storeForm_of_exec (by decide) rfl rfl (exec_fstswM16 m s)

/-! ### FSTENV and then FLDENV -/

/-- Words stored in turn are read back, each at its place: those after the first are above it. -/
theorem State.read16_storeWords (s : State) (seg off : Word) {ws : List Word} (hws : 2 * ws.length ≤ 65536) {k : Nat}
    (hk : k < ws.length) : (s.storeWords seg off ws).read16 seg (off + BitVec.ofNat 16 (2 * k)) = ws[k] := by
  induction ws generalizing s off k with
  | nil => exact absurd hk (Nat.not_lt_zero k)
  | cons w rest ih =>
    rw [List.length_cons] at hws hk
    rw [storeWords]
    cases k with
    | zero =>
      have hrest : ∀ a, Touches seg off 2 a → ¬ Touches seg (off + 2) (2 * rest.length) a := fun a hw habove =>
        Touches.disjoint_above (m := 2) (by omega) habove hw
      rw [storeWords_eq, Nat.mul_zero, BitVec.add_zero,
        read16_congr fun a ha => writeLE_read_other _ _ _ _ _ (hrest a ha), read16_write16, List.getElem_cons_zero]
    | succ k =>
      have hoff : off + BitVec.ofNat 16 (2 * (k + 1)) = off + 2 + BitVec.ofNat 16 (2 * k) := by
        rw [Nat.mul_succ, add_comm (2 * k), BitVec.ofNat_add, ← add_assoc]
        rfl
      rw [hoff, ih _ _ (by omega) (by omega), List.getElem_cons_succ]

@[simp] theorem Block.length_environment (b : Block) : b.environment.length = 7 := rfl

/-- The words of the environment stand where FSTENV stored them, for whoever finds its bytes: the patch spares them. -/
theorem read16_of_fstenv {s t u : State} {m : MemOperand} (h : exec (.fstenvM14 m) s = .next t)
    (hspares : ∀ a, s.RetIPByte a → ¬ Touches (s.eaSeg m) (s.eaOff m) 14 a)
    (hsame : ∀ a, Touches (s.eaSeg m) (s.eaOff m) 14 a → u.mem.read a = t.mem.read a) {k : Nat}
    (hk : k < s.block.environment.length) :
    u.read16 (s.eaSeg m) (s.eaOff m + BitVec.ofNat 16 (2 * k)) = s.block.environment[k] := by
  rw [exec_fstenvM14] at h
  obtain rfl := Host.Outcome.next.inj h
  have hk7 : k < 7 := hk
  rw [← s.read16_storeWords (s.eaSeg m) (s.eaOff m) (ws := s.block.environment) (by simp) hk]
  refine State.read16_congr fun a ⟨j, hj, ha⟩ => ?_
  have hin : Touches (s.eaSeg m) (s.eaOff m) 14 a :=
    ⟨2 * k + j, by omega, by rw [ha, add_assoc, BitVec.ofNat_add]⟩
  rw [hsame a hin, State.patch_read_other]
  simpa [State.RetIPByte] using fun hret => hspares a hret hin

/-- Settles O29: FLDENV loads the first three words `read16_of_fstenv` finds, and TW gives the tags back. -/
theorem environmentRoundTrip : Obligations.EnvironmentRoundTrip := by
  intro s t u m m' hexec hspares hseg hoff hsame
  have hcw := read16_of_fstenv hexec hspares hsame (k := 0) (by simp)
  have hsw := read16_of_fstenv hexec hspares hsame (k := 1) (by simp)
  have htw := read16_of_fstenv hexec hspares hsame (k := 2) (by simp)
  rw [Nat.mul_zero, BitVec.add_zero] at hcw
  obtain ⟨w, hload, -, -, hblock⟩ := blockForm_of_exec (exec_fldenvM14 m' u)
  rw [hseg, hoff, hcw] at hblock
  refine ⟨w, hload, ?_⟩
  rw [hblock]
  exact ⟨rfl, hsw, (congrArg tagsOfWord htw).trans (tagsOfWord_tagWord _), rfl⟩

end Sys2Proof.Machine
end

section
/-! PROOFS. What stops a step and what does not stop a transaction (spec R4, R109, R110, R350, R352, R357). -/

namespace Sys2Proof.Machine

/-- A trap inside a transaction is refused (spec R357). -/
theorem step_of_inTransaction {s : State} (h : s.inTransaction = true) : step s = .refused .nestedTrap := if_pos h

/-- Outside a transaction a step is refused for whatever keeps CS:IP from holding one of the ten traps. -/
theorem step_of_trapAt_error {s : State} {r : Refusal} (hidle : s.inTransaction = false)
    (htrap : s.trapAt = .error r) : step s = .refused r := by
  simp [step, hidle, htrap]

theorem State.codeByte_zero (s : State) : s.codeByte 0 = s.read8 s.guest.cs s.guest.ip := by simp [codeByte]

theorem State.codeByte_one (s : State) : s.codeByte 1 = s.read8 s.guest.cs (s.guest.ip + 1) := rfl

/-- A byte other than `CD` at CS:IP begins no trap sequence (spec R4, R90). -/
theorem State.trapAt_of_guestInstruction {s : State} (h : s.codeByte 0 ≠ intOpcode) :
    s.trapAt = .error (.guestInstruction (s.codeByte 0)) := if_neg h

/-- A number after the `CD` that is none of the ten vectors' is another handler's (spec R110). -/
theorem State.trapAt_of_foreignVector {s : State} (hcd : s.codeByte 0 = intOpcode)
    (hv : TrapVector.ofNumber s.params.vecBase (s.codeByte 1) = none) :
    s.trapAt = .error (.foreignVector (s.codeByte 1)) := by
  rw [trapAt, if_pos hcd, hv]

/-- Settles O9: the mark of a transaction is tested first, and the other two refusals are `State.trapAt`'s. -/
theorem stepRefusals : Obligations.StepRefusals := by
  intro s
  rw [← s.codeByte_zero, ← s.codeByte_one]
  exact ⟨step_of_inTransaction,
    fun hidle hbyte => step_of_trapAt_error hidle (State.trapAt_of_guestInstruction hbyte),
    fun hidle hcd hv => step_of_trapAt_error hidle (State.trapAt_of_foreignVector hcd hv)⟩

/-- Settles O15: every transaction is the selected rule and the patch (`exec_rule`), and both are total. -/
theorem execCompletes : Obligations.ExecCompletes := fun i s => ⟨_, exec_rule i s⟩

end Sys2Proof.Machine
end

section
/-! PROOFS. The base case of the invariant that every step keeps (spec R370, R372). -/

namespace Sys2Proof.Machine

/-- Settles O17: the memory of a new process context is the empty canonical list, and the reset fields say the rest. -/
theorem resetInv : Obligations.ResetInv := by
  have hidle : State.reset.inTransaction = false := rfl
  have hnone : State.reset.guest.override = none := rfl
  exact ⟨State.reset_mem_wf, hidle, hnone⟩

end Sys2Proof.Machine
end
